-- ==== Sys2Proof/Word.lean ====
section
/-!
DEFINITION. The two word widths of the machine (rule R6 table P-1): the 8-bit byte of the data bus and
registers, and the 16-bit word of the program counter and of every address the CPU computes.
-/

namespace Sys2Proof

/-- A byte: the width of the data bus and of `A`, `X`, `Y`, `S`, `P` (rules R6, R8). -/
abbrev Byte := BitVec 8

/-- A word: the width of `PC` and of a CPU address (rules R6, R8). -/
abbrev Word := BitVec 16

end Sys2Proof
end

