-- ==== Sys2Proof/Config.lean ====
section
/-!
DEFINITION. The open parameters of the machine: table P-2 of rule R7.  They are plain data, held in a field of
`State` that no step writes, so that a statement over every state is a statement for every value of every
parameter ("a claim about the hardware should hold for every value", rule R7).  The one parameter that is not data,
`Wave` (rule R446), is a tag: the spec's default generator, or an uninterpreted one with a state of its own.
-/

namespace Sys2Proof

/-- A byte store: (index, byte) pairs, indexes strictly rising, no entry equal to what an unlisted index reads
as (`Machine.unlistedByte`).  RAM, the cartridge image and the cartridge RAM are each one of these. -/
abbrev Memory := List Host.Cell

/-- `ILLEGAL_POLICY` (rule R280): what the 105 undocumented opcodes do. -/
inductive IllegalPolicy where
  | fault
  | nop
  | emulateStable
  deriving DecidableEq, Repr

/-- `DECIMAL_MODE` (rules R26, R203): whether ADC and SBC look at `P.D`. -/
inductive DecimalMode where
  | ignored
  | nmosBcd
  deriving DecidableEq, Repr

/-- `RSYNC_POLICY` (rule R373): what a write to RSYNC does. -/
inductive RsyncPolicy where
  | ignore
  | fault
  deriving DecidableEq, Repr

/-- `Wave` (rule R446): the default waveform generator of the rule, or any other one, left uninterpreted. -/
inductive WaveKind where
  | default
  | other
  deriving DecidableEq, Repr

/-- The state of the default waveform generator (rule R446). -/
structure Wave where
  p4 : BitVec 4
  p5 : BitVec 5
  p9 : BitVec 9
  t : Bool
  d3 : Fin 3
  out : Bool
  deriving DecidableEq, Repr

/-- `Wave.step` of a generator other than the default, on the number that codes its state: a free value (rule R446
leaves the function open; log entry 11). -/
opaque Config.waveStep : BitVec 4 → Nat → Nat

/-- `Wave.init` of a generator other than the default: a free value (rule R446; log entry 11). -/
opaque Config.waveInit : Nat

/-- `Wave.out` of a generator other than the default: a free value (rule R446; log entry 11). -/
opaque Config.waveOut : Nat → Bool

/-- `W`, the state type of the parameter `Wave` (rule R446).  A generator other than the default keeps any state it
likes, coded as a natural number, and beside it whether its last step was of a type whose output condition (b) of
the rule fixes at 1 (log entry 11). -/
inductive WaveState where
  | default (w : Wave)
  | other (n : Nat) (one : Bool)
  deriving DecidableEq, Repr

/-- The generator a state belongs to. -/
def WaveState.kind : WaveState → WaveKind
  | .default _ => .default
  | .other _ _ => .other

/-- The six flags of `P` (rule R24); bits 5 and 4 of the pushed byte are not state. -/
structure Flags where
  n : Bool
  v : Bool
  d : Bool
  i : Bool
  z : Bool
  c : Bool
  deriving DecidableEq, Repr

/-- One bank index per window of the cartridge (rule R33); a scheme uses the first one or the first three. -/
structure Banks where
  w0 : Nat
  w1 : Nat
  w2 : Nat
  deriving DecidableEq, Repr

/-- `RESET_INTERVAL` and `riot.interval` (rule R32): the four prescale choices, in CPU cycles (rule R334). -/
inductive Prescale where
  | by1
  | by8
  | by64
  | by1024
  deriving DecidableEq, Repr

/-- The scheme tags of table K-1 (rule R103): the closed set of mapper schemes. -/
inductive Scheme where
  | plain2k
  | plain4k
  | f8
  | f6
  | f4
  | ef
  | f8sc
  | f6sc
  | f4sc
  | e0
  | s3f
  deriving DecidableEq, Repr

/-- The six admitted image sizes (rules R33, R101). -/
inductive ImageSize where
  | k2
  | k4
  | k8
  | k16
  | k32
  | k64
  deriving DecidableEq, Repr

/-- The open parameters of table P-2 (rule R7).  `SCHEME` is in the mapper's state (rule R33); `PADDLE` is the
host's and shows only as the levels of the input snapshot (rule R414). -/
structure Params where
  illegalPolicy : IllegalPolicy
  decimalMode : DecimalMode
  rsyncPolicy : RsyncPolicy
  collideInVblank : Bool
  hmoveBlankMax : Nat
  fbFirstLine : Nat
  fbLines : Nat
  audioPhaseA : Fin 228
  audioPhaseB : Fin 228
  wave : WaveKind
  resetA : Byte
  resetX : Byte
  resetY : Byte
  resetS : Byte
  resetN : Bool
  resetV : Bool
  resetD : Bool
  resetZ : Bool
  resetC : Bool
  resetRam : Memory
  resetTimer : Byte
  resetInterval : Prescale
  /-- `START_BANK`; `none` where the host names none, and the scheme's default holds (rule R104). -/
  startBank : Option Banks
  resetScram : Memory
  deriving DecidableEq, Repr

/-- The defaults of table P-2 (rule R7); the start banks are those of the scheme (rule R104). -/
def Params.default : Params where
  illegalPolicy := .fault
  decimalMode := .ignored
  rsyncPolicy := .ignore
  collideInVblank := true
  hmoveBlankMax := 63
  fbFirstLine := 0
  fbLines := 320
  audioPhaseA := 0
  audioPhaseB := 114
  wave := .default
  resetA := 0x00
  resetX := 0x00
  resetY := 0x00
  resetS := 0xFD
  resetN := false
  resetV := false
  resetD := false
  resetZ := false
  resetC := false
  resetRam := []
  resetTimer := 0x00
  resetInterval := .by1024
  startBank := none
  resetScram := []

end Sys2Proof
end

