-- ==== Sys2Proof/Machine/Memory.lean ====
section
/-!
DEFINITION. The byte stores: what an index reads as, and the write that keeps the one canonical form.  RAM
(rule R29), the cartridge image and the cartridge RAM (rule R33) are each a store of this kind.
-/

namespace Sys2Proof.Machine

/-- What an index that a store does not list reads as (DESIGN CHOICE, log entry 2; unsafe): the default of
`RESET_RAM` and `RESET_SCRAM` is all 0 (rule R7 table P-2), and "`0x00` is what unprogrammed areas of some images
hold" (rule R262). -/
def unlistedByte : Byte := 0x00

/-- The byte of a store at an index. -/
def readCell : Memory → Nat → Byte
  | [], _ => unlistedByte
  | (k, w) :: rest, a => if k = a then w else readCell rest a

/-- A cell in front of a store, left out where it holds what an unlisted index reads as. -/
def consCell (a : Nat) (v : Byte) (m : Memory) : Memory :=
  if v = unlistedByte then m else (a, v) :: m

/-- The store after a byte is written at an index. -/
def writeCell : Memory → Nat → Byte → Memory
  | [], a, v => consCell a v []
  | (k, w) :: rest, a, v =>
    if k < a then (k, w) :: writeCell rest a v
    else if k = a then consCell a v rest
    else consCell a v ((k, w) :: rest)

/-- Every index of the store is at least `lo`, the indexes rise strictly, and no cell holds what an unlisted index
reads as. -/
def wfFrom : Nat → Memory → Bool
  | _, [] => true
  | lo, (k, w) :: rest => decide (lo ≤ k) && decide (w ≠ unlistedByte) && wfFrom (k + 1) rest

/-- Every index of the store is below a bound. -/
def belowBound (bound : Nat) : Memory → Bool
  | [] => true
  | (k, _) :: rest => decide (k < bound) && belowBound bound rest

/-- The canonical form of a store. -/
def Memory.wf (m : Memory) : Bool := wfFrom 0 m

end Sys2Proof.Machine
end

