-- ==== Sys2Proof/Machine/State.lean ====
section
/-!
DEFINITION. The machine's state: every piece of state the spec gives it (rules R20 to R36), the parameters that no
step writes (rule R7), the host's input snapshots (rule R52) and the output history (rule R36).  All of it is plain
data.  `State.reset` is the state after `Reset()` (rule R460) with every parameter at its default and an image that
lists nothing.
-/

namespace Sys2Proof.Machine

/-- The CPU's registers (rules R20 to R24).  The cycle counter of rule R20 is `State.cyc`. -/
structure Cpu where
  a : Byte
  x : Byte
  y : Byte
  /-- `S`, the stack pointer (rule R22). -/
  sp : Byte
  pc : Word
  p : Flags
  deriving DecidableEq, Repr

/-- The TIA's counters and holds (rules R364, R366, R372, R394). -/
structure Beam where
  hcount : Fin 228
  line : Nat
  wsync : Bool
  hmoveBlank : Bool
  deriving DecidableEq, Repr

/-- VSYNC and VBLANK (rules R367 to R369). -/
structure Sync where
  vsync : Bool
  vblank : Bool
  latchEn : Bool
  dumpEn : Bool
  deriving DecidableEq, Repr

/-- A player: `nusiz`, `colup`, `refp`, `pos_p`, the new and old graphics, `hmp`, `vdelp` (rules R376 to R392).
`nusiz` holds bits 5..0 of the byte written, bit 3 always 0. -/
structure Player where
  nusiz : BitVec 6
  colup : Byte
  refp : Bool
  pos : Fin 160
  grpNew : Byte
  grpOld : Byte
  hm : BitVec 4
  vdel : Bool
  deriving DecidableEq, Repr

/-- A missile: `pos_m`, `enam`, `hmm`, `resmp` (rules R384, R390 to R392). -/
structure Missile where
  pos : Fin 160
  enam : Bool
  hm : BitVec 4
  resmp : Bool
  deriving DecidableEq, Repr

/-- The ball: `pos_bl`, `enabl_new`, `enabl_old`, `hmbl`, `vdelbl` (rules R384, R389, R390, R392). -/
structure Ball where
  pos : Fin 160
  enablNew : Bool
  enablOld : Bool
  hm : BitVec 4
  vdel : Bool
  deriving DecidableEq, Repr

/-- The playfield and background registers (rules R377, R378, R380).  `ctrlpf` holds bits 5..0 of the byte written,
bit 3 always 0; `pf0` holds bits 7..4. -/
structure Playfield where
  colupf : Byte
  colubk : Byte
  ctrlpf : BitVec 6
  pf0 : BitVec 4
  pf1 : Byte
  pf2 : Byte
  deriving DecidableEq, Repr

/-- The fifteen collision latches `tia.cx` (rule R410). -/
structure Collisions where
  m0p1 : Bool
  m0p0 : Bool
  m1p0 : Bool
  m1p1 : Bool
  p0pf : Bool
  p0bl : Bool
  p1pf : Bool
  p1bl : Bool
  m0pf : Bool
  m0bl : Bool
  m1pf : Bool
  m1bl : Bool
  blpf : Bool
  p0p1 : Bool
  m0m1 : Bool
  deriving DecidableEq, Repr

/-- The latched levels of INPT4 and INPT5 (rule R415). -/
structure InputLatches where
  inpt4 : Bool
  inpt5 : Bool
  deriving DecidableEq, Repr

/-- One tone generator: `audc`, `audf`, `audv`, `adiv`, `awave` (rules R441, R443, R446). -/
structure Channel where
  audc : BitVec 4
  audf : BitVec 5
  audv : BitVec 4
  adiv : BitVec 5
  awave : WaveState
  deriving DecidableEq, Repr

/-- The TIA (rule R30 table S-3). -/
structure Tia where
  beam : Beam
  sync : Sync
  p0 : Player
  p1 : Player
  m0 : Missile
  m1 : Missile
  bl : Ball
  pf : Playfield
  cx : Collisions
  latch : InputLatches
  ch0 : Channel
  ch1 : Channel
  deriving DecidableEq, Repr

/-- The RIOT (rule R32 table S-4). -/
structure Riot where
  timer : Byte
  interval : Prescale
  sub : BitVec 10
  flag : Bool
  deriving DecidableEq, Repr

/-- The cartridge and its mapper (rule R33): the image, its size and scheme, which no step changes, the bank index
of each window, and the 128 bytes of cartridge RAM of the SC schemes. -/
structure Mapper where
  scheme : Scheme
  size : ImageSize
  rom : Memory
  bank : Banks
  ram : Memory
  deriving DecidableEq, Repr

/-- The host's input snapshot (rule R52): the levels on the two RIOT ports and the six TIA input pins. -/
structure Inputs where
  swcha : Byte
  swchb : Byte
  inpt0 : Bool
  inpt1 : Bool
  inpt2 : Bool
  inpt3 : Bool
  inpt4 : Bool
  inpt5 : Bool
  deriving DecidableEq, Repr

/-- One entry of the output history (rules R36, R365, R367, R370, R443). -/
inductive OutEvent where
  /-- `Pixel(row, x, c)`: the frame buffer cell at a row and column takes a colour value. -/
  | pixel (row x : Nat) (c : Byte)
  /-- `EndOfScanline`. -/
  | endOfScanline
  /-- `EndOfFrame`. -/
  | endOfFrame
  /-- `Sample(s)`. -/
  | sample (s : Nat)
  deriving DecidableEq, Repr

/-- The record `UnsupportedOpcode(op, at)` (rule R35). -/
structure UnsupportedOpcode where
  op : Byte
  /-- `at`: the address of the opcode. -/
  pc : Word
  deriving DecidableEq, Repr

/-- The whole machine. -/
structure State where
  cpu : Cpu
  /-- The CPU cycles completed since reset (rule R27). -/
  cyc : Nat
  /-- `ram[0..127]`, keyed by index (rule R29). -/
  ram : Memory
  tia : Tia
  riot : Riot
  map : Mapper
  /-- The value last driven on the data bus (rule R34). -/
  dbus : Byte
  /-- The fault record, `none` while the machine runs (rule R35). -/
  fault : Option UnsupportedOpcode
  /-- The open parameters (rule R7); no step writes them. -/
  par : Params
  /-- The input snapshot in force (rule R52). -/
  inp : Inputs
  /-- The snapshots the host has ready for the coming steps, the next one first; when the list is empty the one in
  force stays (rule R52; log entry 4). -/
  pending : List Inputs
  /-- The output history, newest entry first (rule R36). -/
  out : List OutEvent
  deriving DecidableEq, Repr

/-- Why a step stops. -/
inductive Fault where
  /-- Raised by `step` alone, in a state whose `fault` is not `none`: the machine takes no system step until the host
  resets it (rules R35, R302).  Safe: the spec has no next state here. -/
  | unsupportedOpcode (r : UnsupportedOpcode)
  deriving DecidableEq, Repr

/-- Why a step is refused. -/
inductive Refusal where
  /-- Raised by an arm of `exec` whose instruction has no meaning yet.  Safe.  No arm raises it: every instruction
  has its meaning. -/
  | notModelled (mnemonic : String)
  deriving DecidableEq, Repr

/-- What an instruction answers. -/
abbrev Result := Host.Outcome State Fault Refusal

/-- The default waveform generator's initial state, `Wave.init` (rule R446). -/
def waveReset : WaveState := .default ⟨0xF, 0x1F, 0x1FF, false, 0, true⟩

/-- A player with every field 0 (rule R418). -/
def Player.reset : Player := ⟨0, 0, false, 0, 0, 0, 0, false⟩

/-- A missile with every field 0 (rule R418). -/
def Missile.reset : Missile := ⟨0, false, 0, false⟩

/-- No collision latch set (rules R412, R418). -/
def Collisions.clear : Collisions :=
  ⟨false, false, false, false, false, false, false, false, false, false, false, false, false, false, false⟩

/-- A tone generator after reset (rule R448). -/
def Channel.reset (w : WaveState) : Channel := ⟨0, 0, 0, 0, w⟩

/-- The TIA after reset (rules R418, R448), with `w` the initial state of the waveform generator. -/
def Tia.reset (w : WaveState) : Tia where
  beam := ⟨0, 0, false, false⟩
  sync := ⟨false, false, false, false⟩
  p0 := Player.reset
  p1 := Player.reset
  m0 := Missile.reset
  m1 := Missile.reset
  bl := ⟨0, false, false, 0, false⟩
  pf := ⟨0, 0, 0, 0, 0, 0⟩
  cx := Collisions.clear
  latch := ⟨true, true⟩
  ch0 := Channel.reset w
  ch1 := Channel.reset w

/-- Every input line high: nothing pressed (log entry 4; DESIGN CHOICE). -/
def Inputs.released : Inputs := ⟨0xFF, 0xFF, true, true, true, true, true, true⟩

/-- The machine right after reset (rules R53, R460), every parameter at its default and a 4 KiB image that lists
nothing (log entry 3): the word at the reset vector of that image is `0x0000`. -/
def State.reset : State where
  cpu := { a := 0x00, x := 0x00, y := 0x00, sp := 0xFD, pc := 0x0000,
           p := { n := false, v := false, d := false, i := true, z := false, c := false } }
  cyc := 0
  ram := []
  tia := Tia.reset waveReset
  riot := { timer := 0x00, interval := .by1024, sub := 0, flag := false }
  map := { scheme := .plain4k, size := .k4, rom := [], bank := ⟨0, 0, 0⟩, ram := [] }
  dbus := 0x00
  fault := none
  par := Params.default
  inp := Inputs.released
  pending := []
  out := []

end Sys2Proof.Machine
end

