-- ==== Sys2Proof/Syntax.lean ====
section
/-!
DEFINITION. The instructions: a constructor for every row of the opcode table (rules R140, R143, R281), named by
mnemonic and addressing mode, with the operand bytes the mode gives it (rule R141 table E-1): `b1` the byte after the
opcode, `lo` and `hi` the two bytes of an absolute operand, `d` a branch displacement.  Where table U-1 gives several
opcode bytes to one mnemonic in one mode (JAM, ANC, the undocumented NOPs but the absolute one), the rows share a
constructor that carries the opcode byte as its field `op`, and `Instr.wellFormed` says which bytes it may be
(log entry 1).
-/

namespace Sys2Proof

/-- The 13 addressing modes (rule R141 table E-1). -/
inductive Mode where
  | imp | acc | imm | zp | zpx | zpy | abs | abx | aby | izx | izy | rel | ind
  deriving DecidableEq, Repr

/-- The instructions of the opcode table (rules R143 table E-2 and R281 table U-1). -/
inductive Instr where
  | brk
  | oraIzX (b1 : Byte)
  | jam (op : Byte)
  | sloIzX (b1 : Byte)
  | nopZp (op b1 : Byte)
  | oraZp (b1 : Byte)
  | aslZp (b1 : Byte)
  | sloZp (b1 : Byte)
  | php
  | oraImm (b1 : Byte)
  | aslAcc
  | ancImm (op b1 : Byte)
  | nopAbs (lo hi : Byte)
  | oraAbs (lo hi : Byte)
  | aslAbs (lo hi : Byte)
  | sloAbs (lo hi : Byte)
  | bpl (d : Byte)
  | oraIzY (b1 : Byte)
  | sloIzY (b1 : Byte)
  | nopZpX (op b1 : Byte)
  | oraZpX (b1 : Byte)
  | aslZpX (b1 : Byte)
  | sloZpX (b1 : Byte)
  | clc
  | oraAbsY (lo hi : Byte)
  | nopImp (op : Byte)
  | sloAbsY (lo hi : Byte)
  | nopAbsX (op lo hi : Byte)
  | oraAbsX (lo hi : Byte)
  | aslAbsX (lo hi : Byte)
  | sloAbsX (lo hi : Byte)
  | jsr (lo hi : Byte)
  | andIzX (b1 : Byte)
  | rlaIzX (b1 : Byte)
  | bitZp (b1 : Byte)
  | andZp (b1 : Byte)
  | rolZp (b1 : Byte)
  | rlaZp (b1 : Byte)
  | plp
  | andImm (b1 : Byte)
  | rolAcc
  | bitAbs (lo hi : Byte)
  | andAbs (lo hi : Byte)
  | rolAbs (lo hi : Byte)
  | rlaAbs (lo hi : Byte)
  | bmi (d : Byte)
  | andIzY (b1 : Byte)
  | rlaIzY (b1 : Byte)
  | andZpX (b1 : Byte)
  | rolZpX (b1 : Byte)
  | rlaZpX (b1 : Byte)
  | sec
  | andAbsY (lo hi : Byte)
  | rlaAbsY (lo hi : Byte)
  | andAbsX (lo hi : Byte)
  | rolAbsX (lo hi : Byte)
  | rlaAbsX (lo hi : Byte)
  | rti
  | eorIzX (b1 : Byte)
  | sreIzX (b1 : Byte)
  | eorZp (b1 : Byte)
  | lsrZp (b1 : Byte)
  | sreZp (b1 : Byte)
  | pha
  | eorImm (b1 : Byte)
  | lsrAcc
  | alr (b1 : Byte)
  | jmpAbs (lo hi : Byte)
  | eorAbs (lo hi : Byte)
  | lsrAbs (lo hi : Byte)
  | sreAbs (lo hi : Byte)
  | bvc (d : Byte)
  | eorIzY (b1 : Byte)
  | sreIzY (b1 : Byte)
  | eorZpX (b1 : Byte)
  | lsrZpX (b1 : Byte)
  | sreZpX (b1 : Byte)
  | cli
  | eorAbsY (lo hi : Byte)
  | sreAbsY (lo hi : Byte)
  | eorAbsX (lo hi : Byte)
  | lsrAbsX (lo hi : Byte)
  | sreAbsX (lo hi : Byte)
  | rts
  | adcIzX (b1 : Byte)
  | rraIzX (b1 : Byte)
  | adcZp (b1 : Byte)
  | rorZp (b1 : Byte)
  | rraZp (b1 : Byte)
  | pla
  | adcImm (b1 : Byte)
  | rorAcc
  | arr (b1 : Byte)
  | jmpInd (lo hi : Byte)
  | adcAbs (lo hi : Byte)
  | rorAbs (lo hi : Byte)
  | rraAbs (lo hi : Byte)
  | bvs (d : Byte)
  | adcIzY (b1 : Byte)
  | rraIzY (b1 : Byte)
  | adcZpX (b1 : Byte)
  | rorZpX (b1 : Byte)
  | rraZpX (b1 : Byte)
  | sei
  | adcAbsY (lo hi : Byte)
  | rraAbsY (lo hi : Byte)
  | adcAbsX (lo hi : Byte)
  | rorAbsX (lo hi : Byte)
  | rraAbsX (lo hi : Byte)
  | nopImm (op b1 : Byte)
  | staIzX (b1 : Byte)
  | saxIzX (b1 : Byte)
  | styZp (b1 : Byte)
  | staZp (b1 : Byte)
  | stxZp (b1 : Byte)
  | saxZp (b1 : Byte)
  | dey
  | txa
  | ane (b1 : Byte)
  | styAbs (lo hi : Byte)
  | staAbs (lo hi : Byte)
  | stxAbs (lo hi : Byte)
  | saxAbs (lo hi : Byte)
  | bcc (d : Byte)
  | staIzY (b1 : Byte)
  | shaIzY (b1 : Byte)
  | styZpX (b1 : Byte)
  | staZpX (b1 : Byte)
  | stxZpY (b1 : Byte)
  | saxZpY (b1 : Byte)
  | tya
  | staAbsY (lo hi : Byte)
  | txs
  | tas (lo hi : Byte)
  | shy (lo hi : Byte)
  | staAbsX (lo hi : Byte)
  | shx (lo hi : Byte)
  | shaAbsY (lo hi : Byte)
  | ldyImm (b1 : Byte)
  | ldaIzX (b1 : Byte)
  | ldxImm (b1 : Byte)
  | laxIzX (b1 : Byte)
  | ldyZp (b1 : Byte)
  | ldaZp (b1 : Byte)
  | ldxZp (b1 : Byte)
  | laxZp (b1 : Byte)
  | tay
  | ldaImm (b1 : Byte)
  | tax
  | lxa (b1 : Byte)
  | ldyAbs (lo hi : Byte)
  | ldaAbs (lo hi : Byte)
  | ldxAbs (lo hi : Byte)
  | laxAbs (lo hi : Byte)
  | bcs (d : Byte)
  | ldaIzY (b1 : Byte)
  | laxIzY (b1 : Byte)
  | ldyZpX (b1 : Byte)
  | ldaZpX (b1 : Byte)
  | ldxZpY (b1 : Byte)
  | laxZpY (b1 : Byte)
  | clv
  | ldaAbsY (lo hi : Byte)
  | tsx
  | las (lo hi : Byte)
  | ldyAbsX (lo hi : Byte)
  | ldaAbsX (lo hi : Byte)
  | ldxAbsY (lo hi : Byte)
  | laxAbsY (lo hi : Byte)
  | cpyImm (b1 : Byte)
  | cmpIzX (b1 : Byte)
  | dcpIzX (b1 : Byte)
  | cpyZp (b1 : Byte)
  | cmpZp (b1 : Byte)
  | decZp (b1 : Byte)
  | dcpZp (b1 : Byte)
  | iny
  | cmpImm (b1 : Byte)
  | dex
  | sbx (b1 : Byte)
  | cpyAbs (lo hi : Byte)
  | cmpAbs (lo hi : Byte)
  | decAbs (lo hi : Byte)
  | dcpAbs (lo hi : Byte)
  | bne (d : Byte)
  | cmpIzY (b1 : Byte)
  | dcpIzY (b1 : Byte)
  | cmpZpX (b1 : Byte)
  | decZpX (b1 : Byte)
  | dcpZpX (b1 : Byte)
  | cld
  | cmpAbsY (lo hi : Byte)
  | dcpAbsY (lo hi : Byte)
  | cmpAbsX (lo hi : Byte)
  | decAbsX (lo hi : Byte)
  | dcpAbsX (lo hi : Byte)
  | cpxImm (b1 : Byte)
  | sbcIzX (b1 : Byte)
  | iscIzX (b1 : Byte)
  | cpxZp (b1 : Byte)
  | sbcZp (b1 : Byte)
  | incZp (b1 : Byte)
  | iscZp (b1 : Byte)
  | inx
  | sbcImm (b1 : Byte)
  | nop
  | usbc (b1 : Byte)
  | cpxAbs (lo hi : Byte)
  | sbcAbs (lo hi : Byte)
  | incAbs (lo hi : Byte)
  | iscAbs (lo hi : Byte)
  | beq (d : Byte)
  | sbcIzY (b1 : Byte)
  | iscIzY (b1 : Byte)
  | sbcZpX (b1 : Byte)
  | incZpX (b1 : Byte)
  | iscZpX (b1 : Byte)
  | sed
  | sbcAbsY (lo hi : Byte)
  | iscAbsY (lo hi : Byte)
  | sbcAbsX (lo hi : Byte)
  | incAbsX (lo hi : Byte)
  | iscAbsX (lo hi : Byte)
  deriving DecidableEq, Repr

end Sys2Proof
end

