-- ==== Sys2Proof/WellFormed.lean ====
section
/-!
DEFINITION. The checks on what the machine is given: an instruction, an image size with its scheme, the start
banks, and the open parameters.
-/

namespace Sys2Proof

/-- The opcode bytes of the undocumented instructions that several rows of table U-1 share (rule R281). -/
def jamOpcodes : List Byte :=
  [0x02, 0x12, 0x22, 0x32, 0x42, 0x52, 0x62, 0x72, 0x92, 0xB2, 0xD2, 0xF2]

def nopImpOpcodes : List Byte := [0x1A, 0x3A, 0x5A, 0x7A, 0xDA, 0xFA]

def nopImmOpcodes : List Byte := [0x80, 0x82, 0x89, 0xC2, 0xE2]

def nopZpOpcodes : List Byte := [0x04, 0x44, 0x64]

def nopZpXOpcodes : List Byte := [0x14, 0x34, 0x54, 0x74, 0xD4, 0xF4]

def nopAbsXOpcodes : List Byte := [0x1C, 0x3C, 0x5C, 0x7C, 0xDC, 0xFC]

def ancOpcodes : List Byte := [0x0B, 0x2B]

/-- An instruction is well-formed when its opcode field is one of the bytes table U-1 gives its row.  Its other
operands are whole bytes, all of whose values are legal: no format has a reserved or sub-byte field (rules R141,
R160). -/
def Instr.wellFormed : Instr → Bool
  | .jam op => jamOpcodes.contains op
  | .nopImp op => nopImpOpcodes.contains op
  | .nopImm op _ => nopImmOpcodes.contains op
  | .nopZp op _ => nopZpOpcodes.contains op
  | .nopZpX op _ => nopZpXOpcodes.contains op
  | .nopAbsX op _ _ => nopAbsXOpcodes.contains op
  | .ancImm op _ => ancOpcodes.contains op
  | .brk | .oraIzX _ | .sloIzX _ | .oraZp _ | .aslZp _ | .sloZp _ | .php | .oraImm _ | .aslAcc | .nopAbs _ _
  | .oraAbs _ _ | .aslAbs _ _ | .sloAbs _ _ | .bpl _ | .oraIzY _ | .sloIzY _ | .oraZpX _ | .aslZpX _
  | .sloZpX _ | .clc | .oraAbsY _ _ | .sloAbsY _ _ | .oraAbsX _ _ | .aslAbsX _ _ | .sloAbsX _ _ | .jsr _ _
  | .andIzX _ | .rlaIzX _ | .bitZp _ | .andZp _ | .rolZp _ | .rlaZp _ | .plp | .andImm _ | .rolAcc
  | .bitAbs _ _ | .andAbs _ _ | .rolAbs _ _ | .rlaAbs _ _ | .bmi _ | .andIzY _ | .rlaIzY _ | .andZpX _
  | .rolZpX _ | .rlaZpX _ | .sec | .andAbsY _ _ | .rlaAbsY _ _ | .andAbsX _ _ | .rolAbsX _ _ | .rlaAbsX _ _
  | .rti | .eorIzX _ | .sreIzX _ | .eorZp _ | .lsrZp _ | .sreZp _ | .pha | .eorImm _ | .lsrAcc | .alr _
  | .jmpAbs _ _ | .eorAbs _ _ | .lsrAbs _ _ | .sreAbs _ _ | .bvc _ | .eorIzY _ | .sreIzY _ | .eorZpX _
  | .lsrZpX _ | .sreZpX _ | .cli | .eorAbsY _ _ | .sreAbsY _ _ | .eorAbsX _ _ | .lsrAbsX _ _ | .sreAbsX _ _
  | .rts | .adcIzX _ | .rraIzX _ | .adcZp _ | .rorZp _ | .rraZp _ | .pla | .adcImm _ | .rorAcc | .arr _
  | .jmpInd _ _ | .adcAbs _ _ | .rorAbs _ _ | .rraAbs _ _ | .bvs _ | .adcIzY _ | .rraIzY _ | .adcZpX _
  | .rorZpX _ | .rraZpX _ | .sei | .adcAbsY _ _ | .rraAbsY _ _ | .adcAbsX _ _ | .rorAbsX _ _ | .rraAbsX _ _
  | .staIzX _ | .saxIzX _ | .styZp _ | .staZp _ | .stxZp _ | .saxZp _ | .dey | .txa | .ane _ | .styAbs _ _
  | .staAbs _ _ | .stxAbs _ _ | .saxAbs _ _ | .bcc _ | .staIzY _ | .shaIzY _ | .styZpX _ | .staZpX _
  | .stxZpY _ | .saxZpY _ | .tya | .staAbsY _ _ | .txs | .tas _ _ | .shy _ _ | .staAbsX _ _ | .shx _ _
  | .shaAbsY _ _ | .ldyImm _ | .ldaIzX _ | .ldxImm _ | .laxIzX _ | .ldyZp _ | .ldaZp _ | .ldxZp _ | .laxZp _
  | .tay | .ldaImm _ | .tax | .lxa _ | .ldyAbs _ _ | .ldaAbs _ _ | .ldxAbs _ _ | .laxAbs _ _ | .bcs _
  | .ldaIzY _ | .laxIzY _ | .ldyZpX _ | .ldaZpX _ | .ldxZpY _ | .laxZpY _ | .clv | .ldaAbsY _ _ | .tsx
  | .las _ _ | .ldyAbsX _ _ | .ldaAbsX _ _ | .ldxAbsY _ _ | .laxAbsY _ _ | .cpyImm _ | .cmpIzX _ | .dcpIzX _
  | .cpyZp _ | .cmpZp _ | .decZp _ | .dcpZp _ | .iny | .cmpImm _ | .dex | .sbx _ | .cpyAbs _ _ | .cmpAbs _ _
  | .decAbs _ _ | .dcpAbs _ _ | .bne _ | .cmpIzY _ | .dcpIzY _ | .cmpZpX _ | .decZpX _ | .dcpZpX _ | .cld
  | .cmpAbsY _ _ | .dcpAbsY _ _ | .cmpAbsX _ _ | .decAbsX _ _ | .dcpAbsX _ _ | .cpxImm _ | .sbcIzX _
  | .iscIzX _ | .cpxZp _ | .sbcZp _ | .incZp _ | .iscZp _ | .inx | .sbcImm _ | .nop | .usbc _ | .cpxAbs _ _
  | .sbcAbs _ _ | .incAbs _ _ | .iscAbs _ _ | .beq _ | .sbcIzY _ | .iscIzY _ | .sbcZpX _ | .incZpX _
  | .iscZpX _ | .sed | .sbcAbsY _ _ | .iscAbsY _ _ | .sbcAbsX _ _ | .incAbsX _ _ | .iscAbsX _ _ => true

/-- The image sizes a scheme admits (rule R103 table K-1, column "sizes"). -/
def Scheme.fits : Scheme → ImageSize → Bool
  | .plain2k, z => decide (z = .k2)
  | .plain4k, z => decide (z = .k4)
  | .f8, z | .f8sc, z | .e0, z => decide (z = .k8)
  | .f6, z | .f6sc, z => decide (z = .k16)
  | .f4, z | .f4sc, z => decide (z = .k32)
  | .ef, z => decide (z = .k64)
  | .s3f, z => decide (z = .k8 ∨ z = .k16 ∨ z = .k32 ∨ z = .k64)

/-- The number of bytes of an image (rule R33). -/
def ImageSize.bytes : ImageSize → Nat
  | .k2 => 2048
  | .k4 => 4096
  | .k8 => 8192
  | .k16 => 16384
  | .k32 => 32768
  | .k64 => 65536

/-- The number of banks a window of the scheme selects among (rule R103 table K-1). -/
def Scheme.bankCount : Scheme → ImageSize → Nat
  | .plain2k, _ | .plain4k, _ => 1
  | .f8, _ | .f8sc, _ => 2
  | .f6, _ | .f6sc, _ => 4
  | .f4, _ | .f4sc, _ => 8
  | .ef, _ => 16
  | .e0, _ => 8
  | .s3f, z => z.bytes / 2048

/-- Every bank index is a valid index into the image (rule R33). -/
def Banks.valid (b : Banks) (k : Scheme) (z : ImageSize) : Bool :=
  decide (b.w0 < k.bankCount z) && decide (b.w1 < k.bankCount z) && decide (b.w2 < k.bankCount z)

/-- The open parameters are admissible for a scheme and an image size: the two audio phases are 114 chip-cycles
apart (rule R442), the start banks are valid (rule R104), and the reset contents of the two RAMs are stores of 128
bytes in canonical form (rules R29, R112). -/
def Params.wellFormed (p : Params) (k : Scheme) (z : ImageSize) : Bool :=
  decide (p.audioPhaseB = p.audioPhaseA + 114) && p.startBank.all (fun b => b.valid k z) &&
  Machine.Memory.wf p.resetRam && Machine.belowBound 128 p.resetRam &&
  Machine.Memory.wf p.resetScram && Machine.belowBound 128 p.resetScram

end Sys2Proof
end

