-- ==== Sys2Proof/Machine/Mapper.lean ====
section
/-!
DEFINITION. The cartridge and its mapper: the hot-spots, the place in the image a window offset shows, the reads and
writes of the window, and the snooping of bus accesses outside it (rules R100 to R122).
-/

namespace Sys2Proof.Machine

/-- The kind of a bus access (rule R62). -/
inductive Access where
  | read
  | write
  deriving DecidableEq, Repr

/-- The schemes with 128 bytes of cartridge RAM in the window (rule R112). -/
def hasCartRam : Scheme → Bool
  | .f8sc | .f6sc | .f4sc => true
  | .plain2k | .plain4k | .f8 | .f6 | .f4 | .ef | .e0 | .s3f => false

/-- Window 0 takes bank `off - first` where the offset is one of the `count` hot-spots from `first` on
(rules R108 to R112). -/
def selectBank (first count : Nat) (off : BitVec 12) (b : Banks) : Banks :=
  if first ≤ off.toNat ∧ off.toNat < first + count then { b with w0 := off.toNat - first } else b

/-- The triggers of scheme `E0` (rule R115). -/
def selectSlice (off : BitVec 12) (b : Banks) : Banks :=
  let slice := off.toNat % 8
  if 0xFE0 ≤ off.toNat ∧ off.toNat ≤ 0xFE7 then { b with w0 := slice }
  else if 0xFE8 ≤ off.toNat ∧ off.toNat ≤ 0xFEF then { b with w1 := slice }
  else if 0xFF0 ≤ off.toNat ∧ off.toNat ≤ 0xFF7 then { b with w2 := slice }
  else b

/-- The banks after an access (read or write) at a window offset (rules R105, R108 to R115). -/
def hotSpot (k : Scheme) (off : BitVec 12) (b : Banks) : Banks :=
  match k with
  | .plain2k | .plain4k | .s3f => b
  | .f8 | .f8sc => selectBank 0xFF8 2 off b
  | .f6 | .f6sc => selectBank 0xFF6 4 off b
  | .f4 | .f4sc => selectBank 0xFF4 8 off b
  | .ef => selectBank 0xFE0 16 off b
  | .e0 => selectSlice off b

/-- The mapper after the trigger of an accessed offset (rule R105). -/
def triggered (off : BitVec 12) (m : Mapper) : Mapper :=
  { m with bank := hotSpot m.scheme off m.bank }

/-- The index in the image of the byte that a window offset shows (rules R106 to R118). -/
def imageIndex (m : Mapper) (off : BitVec 12) : Nat :=
  match m.scheme with
  | .plain2k => off.toNat % 2048
  | .plain4k => off.toNat
  | .f8 | .f6 | .f4 | .ef | .f8sc | .f6sc | .f4sc => m.bank.w0 * 4096 + off.toNat
  | .e0 =>
    let slice :=
      if off.toNat < 0x400 then m.bank.w0
      else if off.toNat < 0x800 then m.bank.w1
      else if off.toNat < 0xC00 then m.bank.w2
      else 7
    slice * 1024 + off.toNat % 1024
  | .s3f =>
    let bank := if off.toNat < 0x800 then m.bank.w0 else m.size.bytes / 2048 - 1
    bank * 2048 + off.toNat % 2048

/-- `map.read` at a window offset, with `dbus` the value last on the bus (rules R105 to R118).  A read of the write
port of the cartridge RAM answers `dbus` and stores it (rule R112). -/
def mapRead (off : BitVec 12) (dbus : Byte) (m : Mapper) : Byte × Mapper :=
  let m := triggered off m
  if hasCartRam m.scheme then
    if off.toNat < 0x080 then (dbus, { m with ram := writeCell m.ram off.toNat dbus })
    else if off.toNat < 0x100 then (readCell m.ram (off.toNat - 0x80), m)
    else (readCell m.rom (imageIndex m off), m)
  else (readCell m.rom (imageIndex m off), m)

/-- `map.write` at a window offset: the trigger, and the write port of the cartridge RAM; a location that holds ROM
takes nothing (rules R69, R105 to R118). -/
def mapWrite (off : BitVec 12) (v : Byte) (m : Mapper) : Mapper :=
  let m := triggered off m
  if hasCartRam m.scheme && decide (off.toNat < 0x080) then
    { m with ram := writeCell m.ram off.toNat v }
  else m

/-- `map.snoop`: the trigger of scheme `3F`, a write to bus `0x0000..0x003F` (rules R69, R118).  No scheme reacts to
a read here. -/
def snoop (kind : Access) (a : BitVec 13) (v : Byte) (m : Mapper) : Mapper :=
  match kind, m.scheme with
  | .write, .s3f =>
    if a.toNat ≤ 0x003F then
      { m with bank := { m.bank with w0 := v.toNat % (m.size.bytes / 2048) } }
    else m
  | _, _ => m

end Sys2Proof.Machine
end

