-- ==== Sys2Proof/Machine/Bits.lean ====
section
/-!
DEFINITION. The bit and byte helpers of the notation of rule R8: concatenation, the two bytes of a word, zero and
sign extension, single bits.
-/

namespace Sys2Proof.Machine

/-- `hi : lo`, the word `hi * 256 + lo` (rules R8, R72). -/
def word (hi lo : Byte) : Word := hi ++ lo

/-- `w[15:8]` (rule R8). -/
def hiByte (w : Word) : Byte := w.extractLsb' 8 8

/-- `w[7:0]` (rule R8). -/
def loByte (w : Word) : Byte := w.extractLsb' 0 8

/-- `zext_16` (rule R8). -/
def zext (b : Byte) : Word := b.setWidth 16

/-- `sext_16` (rule R8). -/
def sext (b : Byte) : Word := b.signExtend 16

/-- `v[i]` of a byte (rule R8). -/
def bit (v : Byte) (i : Nat) : Bool := v.getLsbD i

/-- A byte whose bit `i` is `b` and whose other bits are 0. -/
def bitAt (i : Nat) (b : Bool) : Byte := (BitVec.ofBool b).setWidth 8 <<< i

end Sys2Proof.Machine
end

