-- ==== Sys2Proof/Machine/Riot.lean ====
section
/-!
DEFINITION. The RIOT: the timer tick, and the reads and writes of its registers (rules R330 to R344).  Output
drivers, edge detection and interrupt enables do not exist here (rules R4 (g), R332).
-/

namespace Sys2Proof.Machine

/-- The number of CPU cycles of a prescale choice (rules R32, R334). -/
def cyclesOf : Prescale → Nat
  | .by1 => 1
  | .by8 => 8
  | .by64 => 64
  | .by1024 => 1024

/-- `RiotTick`, once per CPU cycle (rule R335). -/
def riotTick (r : Riot) : Riot :=
  let counted :=
    if r.flag || decide (r.sub.toNat % cyclesOf r.interval = 0) then
      if r.timer = 0x00 then { r with timer := 0xFF, flag := true }
      else { r with timer := r.timer - 1 }
    else r
  { counted with sub := r.sub + 1 }

/-- The interval a timer write selects by `a[1:0]` (rule R331 table T-1, rule R333). -/
def intervalOf (sel : BitVec 5) : Prescale :=
  match sel.toNat % 4 with
  | 0 => .by1
  | 1 => .by8
  | 2 => .by64
  | _ => .by1024

/-- A read of the register `a[4:0]` (rules R331, R337, R338, R340, R342): INTIM clears the underflow flag. -/
def riotRead (sel : BitVec 5) (inp : Inputs) (r : Riot) : Byte × Riot :=
  if sel.getLsbD 2 then
    if sel.getLsbD 0 then (bitAt 7 r.flag, r)
    else (r.timer, { r with flag := false })
  else if sel.getLsbD 0 then (0x00, r)
  else if sel.getLsbD 1 then (inp.swchb, r)
  else (inp.swcha, r)

/-- A write to the register `a[4:0]` (rules R331 to R333, R342): only the four timer registers take anything. -/
def riotWrite (sel : BitVec 5) (v : Byte) (r : Riot) : Riot :=
  if sel.getLsbD 2 && sel.getLsbD 4 then
    { timer := v, interval := intervalOf sel, sub := 0, flag := false }
  else r

end Sys2Proof.Machine
end

