-- ==== Sys2Proof/Machine/Audio.lean ====
section
/-!
DEFINITION. The two tone generators: the waveform generator, the divider, the sample (rules R440 to R449).
-/

namespace Sys2Proof.Machine

/-- `L4` of rule R446. -/
def lfsr4 (p : BitVec 4) : BitVec 4 :=
  (p <<< 1) ||| (BitVec.ofBool (p.getLsbD 3 ^^ p.getLsbD 2)).setWidth 4

/-- `L5` of rule R446. -/
def lfsr5 (p : BitVec 5) : BitVec 5 :=
  (p <<< 1) ||| (BitVec.ofBool (p.getLsbD 4 ^^ p.getLsbD 2)).setWidth 5

/-- `L9` of rule R446. -/
def lfsr9 (p : BitVec 9) : BitVec 9 :=
  (p <<< 1) ||| (BitVec.ofBool (p.getLsbD 8 ^^ p.getLsbD 4)).setWidth 9

/-- The gate of rule R446: whether this step clocks the last stage. -/
def waveGate (audc : BitVec 4) (p5 : BitVec 5) : Bool :=
  if !audc.getLsbD 1 then true
  else if !audc.getLsbD 0 then decide (p5 = 0x1F ∨ p5 = 0x01)
  else p5.getLsbD 4

/-- The last stage of rule R446: square wave, 9-bit noise, 5-bit pattern or 4-bit pattern. -/
def waveTail (audc : BitVec 4) (w : Wave) : Wave :=
  if audc.getLsbD 2 then { w with t := !w.t, out := !w.t }
  else if audc = 0x8 then { w with p9 := lfsr9 w.p9, out := (lfsr9 w.p9).getLsbD 8 }
  else if audc.getLsbD 3 then { w with out := w.p5.getLsbD 4 }
  else { w with p4 := lfsr4 w.p4, out := (lfsr4 w.p4).getLsbD 3 }

/-- The part of rule R446 after the divide-by-3: the 5-bit counter, the gate, the last stage. -/
def waveShift (audc : BitVec 4) (w : Wave) : Wave :=
  let w := { w with p5 := lfsr5 w.p5 }
  if waveGate audc w.p5 then waveTail audc w else w

/-- The types whose output is constantly 1 (rule R446 (b)). -/
def constantType (audc : BitVec 4) : Bool := decide (audc = 0x0 ∨ audc = 0xB)

/-- `Wave.step` of the default generator (rule R446). -/
def defaultWaveStep (audc : BitVec 4) (w : Wave) : Wave :=
  if constantType audc then { w with out := true }
  else if audc.getLsbD 3 && audc.getLsbD 2 then
    if w.d3 + 1 = 0 then waveShift audc { w with d3 := 0 } else { w with d3 := w.d3 + 1 }
  else waveShift audc w

/-- `Wave.step` (rule R446): the default, or the uninterpreted one. -/
def waveStep (audc : BitVec 4) : WaveState → WaveState
  | .default w => .default (defaultWaveStep audc w)
  | .other n _ => .other (Config.waveStep audc n) (constantType audc)

/-- `Wave.out` (rule R446): the default, or the uninterpreted one held to condition (b) of the rule, by which the
output after a step of a constant type is 1. -/
def waveOut : WaveState → Bool
  | .default w => w.out
  | .other n one => one || Config.waveOut n

/-- `Wave.init` (rule R446). -/
def waveInit : WaveKind → WaveState
  | .default => waveReset
  | .other => .other Config.waveInit false

/-- One audio clock of one channel: the divider, and the waveform step when it meets `audf` (rule R443). -/
def channelClock (c : Channel) : Channel :=
  if c.adiv = c.audf then { c with adiv := 0, awave := waveStep c.audc c.awave }
  else { c with adiv := c.adiv + 1 }

/-- The volume-weighted output of one channel (rule R443). -/
def channelOut (c : Channel) : Nat := if waveOut c.awave then c.audv.toNat else 0

/-- `AudioClock` (rule R443): both channels, then one sample. -/
def audioClock (t : Tia) : Tia × Nat :=
  let c0 := channelClock t.ch0
  let c1 := channelClock t.ch1
  ({ t with ch0 := c0, ch1 := c1 }, channelOut c0 + channelOut c1)

end Sys2Proof.Machine
end

