-- ==== Sys2Proof/Machine/Tia.lean ====
section
/-!
DEFINITION. The TIA: the objects active at a pixel, colour, collisions, one chip-cycle, and the reads and writes of
its registers (rules R360 to R420).
-/

namespace Sys2Proof.Machine

/-! ### Objects at a pixel -/

/-- `Copies(n)` (rule R376 table V-3). -/
def copies (nusiz : BitVec 6) : List Nat :=
  match nusiz.toNat % 8 with
  | 0 => [0]
  | 1 => [0, 16]
  | 2 => [0, 32]
  | 3 => [0, 16, 32]
  | 4 => [0, 64]
  | 5 => [0]
  | 6 => [0, 32, 64]
  | _ => [0]

/-- The width of a player pixel, `s` of table V-3 (rule R376). -/
def playerScale (nusiz : BitVec 6) : Nat :=
  match nusiz.toNat % 8 with
  | 5 => 2
  | 7 => 4
  | _ => 1

/-- A missile's width `1 << nusiz[5:4]`, and the ball's `1 << ctrlpf[5:4]` (rules R376, R378). -/
def objectWidth (r : BitVec 6) : Nat := 2 ^ (r.toNat / 16)

/-- `(x - pos - o) mod 160` for `o` at most 64 (rules R396 to R398). -/
def offsetIn (x : Nat) (pos : Fin 160) (o : Nat) : Nat := (x + 320 - (pos.val + o)) % 160

/-- The graphics bit of column `i`, 0 the leftmost, of a player (rules R379, R396). -/
def graphicsBit (refp : Bool) (g : Byte) (i : Nat) : Bool :=
  if refp then g.getLsbD i else g.getLsbD (7 - i)

/-- `PlayerBit` (rule R396). -/
def playerBit (x : Nat) (pos : Fin 160) (nusiz : BitVec 6) (refp : Bool) (g : Byte) : Bool :=
  (copies nusiz).any fun o =>
    decide (offsetIn x pos o < 8 * playerScale nusiz) &&
      graphicsBit refp g (offsetIn x pos o / playerScale nusiz)

/-- `MissileBit` (rule R397). -/
def missileBit (x : Nat) (pos : Fin 160) (nusiz : BitVec 6) (enam resmp : Bool) : Bool :=
  enam && !resmp && (copies nusiz).any fun o => decide (offsetIn x pos o < objectWidth nusiz)

/-- `BallBit` (rule R398). -/
def ballBit (x : Nat) (b : Ball) (ctrlpf : BitVec 6) : Bool :=
  (if b.vdel then b.enablOld else b.enablNew) && decide (offsetIn x b.pos 0 < objectWidth ctrlpf)

/-- `PfBit` (rule R380). -/
def pfBit (x : Nat) (f : Playfield) : Bool :=
  let c := x / 4
  let i := if c < 20 then c else if f.ctrlpf.getLsbD 0 then 39 - c else c - 20
  if i < 4 then f.pf0.getLsbD i
  else if i < 12 then f.pf1.getLsbD (11 - i)
  else f.pf2.getLsbD (i - 12)

/-- `Grp0()` and `Grp1()` (rule R388). -/
def graphics (p : Player) : Byte := if p.vdel then p.grpOld else p.grpNew

/-- Which of the six objects are active at a pixel. -/
structure Active where
  p0 : Bool
  p1 : Bool
  m0 : Bool
  m1 : Bool
  bl : Bool
  pf : Bool
  deriving DecidableEq, Repr

/-- The objects active at column `x` (rule R365). -/
def activeAt (t : Tia) (x : Nat) : Active where
  p0 := playerBit x t.p0.pos t.p0.nusiz t.p0.refp (graphics t.p0)
  p1 := playerBit x t.p1.pos t.p1.nusiz t.p1.refp (graphics t.p1)
  m0 := missileBit x t.m0.pos t.p0.nusiz t.m0.enam t.m0.resmp
  m1 := missileBit x t.m1.pos t.p1.nusiz t.m1.enam t.m1.resmp
  bl := ballBit x t.bl t.pf.ctrlpf
  pf := pfBit x t.pf

/-- `Colour` (rule R404). -/
def colour (t : Tia) (x : Nat) (o : Active) : Byte :=
  if t.pf.ctrlpf.getLsbD 2 then
    if o.pf || o.bl then t.pf.colupf
    else if o.p0 || o.m0 then t.p0.colup
    else if o.p1 || o.m1 then t.p1.colup
    else t.pf.colubk
  else
    let score := t.pf.ctrlpf.getLsbD 1 && o.pf
    if o.p0 || o.m0 || (score && decide (x < 80)) then t.p0.colup
    else if o.p1 || o.m1 || (score && decide (80 ≤ x)) then t.p1.colup
    else if o.pf || o.bl then t.pf.colupf
    else t.pf.colubk

/-- `Collide` (rule R410): a latch once set stays set. -/
def collide (o : Active) (c : Collisions) : Collisions where
  m0p1 := c.m0p1 || (o.m0 && o.p1)
  m0p0 := c.m0p0 || (o.m0 && o.p0)
  m1p0 := c.m1p0 || (o.m1 && o.p0)
  m1p1 := c.m1p1 || (o.m1 && o.p1)
  p0pf := c.p0pf || (o.p0 && o.pf)
  p0bl := c.p0bl || (o.p0 && o.bl)
  p1pf := c.p1pf || (o.p1 && o.pf)
  p1bl := c.p1bl || (o.p1 && o.bl)
  m0pf := c.m0pf || (o.m0 && o.pf)
  m0bl := c.m0bl || (o.m0 && o.bl)
  m1pf := c.m1pf || (o.m1 && o.pf)
  m1bl := c.m1bl || (o.m1 && o.bl)
  blpf := c.blpf || (o.bl && o.pf)
  p0p1 := c.p0p1 || (o.p0 && o.p1)
  m0m1 := c.m0m1 || (o.m0 && o.m1)

/-! ### One chip-cycle -/

/-- The input latches of a chip-cycle (rules R365, R415). -/
def latchInputs (inp : Inputs) (t : Tia) : Tia :=
  if t.sync.latchEn then
    { t with latch := { inpt4 := t.latch.inpt4 && inp.inpt4, inpt5 := t.latch.inpt5 && inp.inpt5 } }
  else t

/-- The column of the pixel this chip-cycle draws: none in horizontal blank, nor in the first 8 columns of a line
with the HMOVE blank (rules R364, R365, R394). -/
def columnOf (b : Beam) : Option Nat :=
  if b.hcount.val < 68 then none
  else if b.hmoveBlank && decide (b.hcount.val - 68 < 8) then none
  else some (b.hcount.val - 68)

/-- Whether collisions latch now (rules R365, R368, R410). -/
def collides (par : Params) (t : Tia) : Bool := !t.sync.vblank || par.collideInVblank

/-- Whether the pixel of this scanline goes to the frame buffer (rules R365, R368, R370). -/
def shows (par : Params) (t : Tia) : Bool :=
  !t.sync.vblank && decide (par.fbFirstLine ≤ t.beam.line ∧ t.beam.line < par.fbFirstLine + par.fbLines)

/-- The pixel and the collisions of a chip-cycle (rule R365). -/
def drawPixel (par : Params) (t : Tia) : Tia × List OutEvent :=
  match columnOf t.beam with
  | none => (t, [])
  | some x =>
    (if collides par t then { t with cx := collide (activeAt t x) t.cx } else t,
     if shows par t then [.pixel (t.beam.line - par.fbFirstLine) x (colour t x (activeAt t x))] else [])

/-- The audio clock of a chip-cycle (rules R365, R442). -/
def clockAudio (par : Params) (t : Tia) : Tia × List OutEvent :=
  if t.beam.hcount = par.audioPhaseA ∨ t.beam.hcount = par.audioPhaseB then
    ((audioClock t).1, [.sample (audioClock t).2])
  else (t, [])

/-- The advance of the counters at the end of a chip-cycle (rules R364 to R366, R372, R394). -/
def advanceBeam (t : Tia) : Tia × List OutEvent :=
  if t.beam.hcount = 227 then
    ({ t with beam := { hcount := 0, line := t.beam.line + 1, wsync := false, hmoveBlank := false } },
     [.endOfScanline])
  else ({ t with beam := { t.beam with hcount := t.beam.hcount + 1 } }, [])

/-- `TiaClock`, one chip-cycle (rule R365): the TIA after it, and what it put out, newest first. -/
def tiaClock (par : Params) (inp : Inputs) (t : Tia) : Tia × List OutEvent :=
  let drawn := drawPixel par (latchInputs inp t)
  let sounded := clockAudio par drawn.1
  let advanced := advanceBeam sounded.1
  (advanced.1, advanced.2 ++ sounded.2 ++ drawn.2)

/-! ### Register reads -/

/-- `Inpt(i)` (rule R415). -/
def inptLevel (inp : Inputs) (t : Tia) (i : Nat) : Bool :=
  match i with
  | 0 => !t.sync.dumpEn && inp.inpt0
  | 1 => !t.sync.dumpEn && inp.inpt1
  | 2 => !t.sync.dumpEn && inp.inpt2
  | 3 => !t.sync.dumpEn && inp.inpt3
  | 4 => if t.sync.latchEn then t.latch.inpt4 else inp.inpt4
  | _ => if t.sync.latchEn then t.latch.inpt5 else inp.inpt5

/-- The values driven on bits 7 and 6 by read register `a[3:0]`, none where nothing is driven (rule R363 table
V-2). -/
def drivenBits (inp : Inputs) (t : Tia) (reg : BitVec 6) : Option (Bool × Bool) :=
  match reg.toNat % 16 with
  | 0x0 => some (t.cx.m0p1, t.cx.m0p0)
  | 0x1 => some (t.cx.m1p0, t.cx.m1p1)
  | 0x2 => some (t.cx.p0pf, t.cx.p0bl)
  | 0x3 => some (t.cx.p1pf, t.cx.p1bl)
  | 0x4 => some (t.cx.m0pf, t.cx.m0bl)
  | 0x5 => some (t.cx.m1pf, t.cx.m1bl)
  | 0x6 => some (t.cx.blpf, false)
  | 0x7 => some (t.cx.p0p1, t.cx.m0m1)
  | 0x8 => some (inptLevel inp t 0, false)
  | 0x9 => some (inptLevel inp t 1, false)
  | 0xA => some (inptLevel inp t 2, false)
  | 0xB => some (inptLevel inp t 3, false)
  | 0xC => some (inptLevel inp t 4, false)
  | 0xD => some (inptLevel inp t 5, false)
  | _ => none

/-- A read of a TIA register, with `dbus` the value last on the bus: the undriven bits keep it (rules R70, R363). -/
def tiaRead (inp : Inputs) (dbus : Byte) (t : Tia) (reg : BitVec 6) : Byte :=
  match drivenBits inp t reg with
  | some (b7, b6) => bitAt 7 b7 ||| bitAt 6 b6 ||| (dbus &&& 0x3F)
  | none => dbus

/-! ### Register writes -/

/-- Where a position strobe puts an object: `blank` in horizontal blank, `delay` pixels to the right of the beam
otherwise (rule R384). -/
def strobePos (blank delay : Nat) (h : Fin 228) : Fin 160 :=
  if h.val < 68 then Fin.ofNat 160 blank else Fin.ofNat 160 (h.val - 68 + delay)

/-- The players' strobe (rule R384). -/
def playerStrobe (h : Fin 228) : Fin 160 := strobePos 3 5 h

/-- The missiles' and the ball's strobe (rule R384). -/
def missileStrobe (h : Fin 228) : Fin 160 := strobePos 2 4 h

/-- `(pos - Signed4(hm)) mod 160` (rules R392, R393). -/
def moved (pos : Fin 160) (hm : BitVec 4) : Fin 160 :=
  Fin.ofNat 160 ((pos.val : Int) + 160 - hm.toInt).toNat

/-- HMOVE (rule R393). -/
def hmove (blankMax : Nat) (t : Tia) : Tia :=
  { t with
    p0 := { t.p0 with pos := moved t.p0.pos t.p0.hm }
    p1 := { t.p1 with pos := moved t.p1.pos t.p1.hm }
    m0 := { t.m0 with pos := moved t.m0.pos t.m0.hm }
    m1 := { t.m1 with pos := moved t.m1.pos t.m1.hm }
    bl := { t.bl with pos := moved t.bl.pos t.bl.hm }
    beam := { t.beam with hmoveBlank := t.beam.hmoveBlank || decide (t.beam.hcount.val ≤ blankMax) } }

/-- HMCLR (rule R392). -/
def hmclr (t : Tia) : Tia :=
  { t with
    p0 := { t.p0 with hm := 0 }
    p1 := { t.p1 with hm := 0 }
    m0 := { t.m0 with hm := 0 }
    m1 := { t.m1 with hm := 0 }
    bl := { t.bl with hm := 0 } }

/-- `Centre` of rule R391. -/
def centre (nusiz : BitVec 6) : Nat :=
  match nusiz.toNat % 8 with
  | 5 => 8
  | 7 => 16
  | _ => 4

/-- RESMP for a missile and its player (rule R391): release puts the missile in the middle of the player. -/
def lockMissile (v : Byte) (p : Player) (m : Missile) : Missile :=
  if m.resmp && !bit v 1 then
    { m with resmp := false, pos := Fin.ofNat 160 (p.pos.val + centre p.nusiz) }
  else { m with resmp := bit v 1 }

/-- The VBLANK write (rules R368, R369). -/
def writeVblank (v : Byte) (t : Tia) : Tia :=
  { t with
    sync := { t.sync with vblank := bit v 1, latchEn := bit v 6, dumpEn := bit v 7 }
    latch := if bit v 6 then t.latch else ⟨true, true⟩ }

/-- The VSYNC write: the rising edge resets the scanline counter (rule R367). -/
def writeVsync (v : Byte) (t : Tia) : Tia :=
  { t with
    sync := { t.sync with vsync := bit v 1 }
    beam := if !t.sync.vsync && bit v 1 then { t.beam with line := 0 } else t.beam }

/-- The WSYNC strobe (rule R372). -/
def strobeWsync (t : Tia) : Tia :=
  if t.beam.hcount = 0 then t else { t with beam := { t.beam with wsync := true } }

/-- The GRP0 write (rule R388). -/
def writeGrp0 (v : Byte) (t : Tia) : Tia :=
  { t with p0 := { t.p0 with grpNew := v }, p1 := { t.p1 with grpOld := t.p1.grpNew } }

/-- The GRP1 write (rule R388). -/
def writeGrp1 (v : Byte) (t : Tia) : Tia :=
  { t with
    p1 := { t.p1 with grpNew := v }
    p0 := { t.p0 with grpOld := t.p0.grpNew }
    bl := { t.bl with enablOld := t.bl.enablNew } }

/-- `v & 0x37`, bits 5..0 (rule R362 table V-1). -/
def maskSix (v : Byte) : BitVec 6 := (v &&& 0x37).setWidth 6

/-- `v[7:4]` (rule R362 table V-1). -/
def highNibble (v : Byte) : BitVec 4 := v.extractLsb' 4 4

/-- A write to TIA write register `a[5:0]`, with `blankMax` the parameter `HMOVE_BLANK_MAX` (rule R362 table V-1,
rules R367 to R393, R412, R416, R441).  RSYNC changes nothing here (rule R373). -/
def tiaStore (blankMax : Nat) (reg : BitVec 6) (v : Byte) (t : Tia) : Tia :=
  match reg.toNat with
  | 0x00 => writeVsync v t
  | 0x01 => writeVblank v t
  | 0x02 => strobeWsync t
  | 0x04 => { t with p0 := { t.p0 with nusiz := maskSix v } }
  | 0x05 => { t with p1 := { t.p1 with nusiz := maskSix v } }
  | 0x06 => { t with p0 := { t.p0 with colup := v &&& 0xFE } }
  | 0x07 => { t with p1 := { t.p1 with colup := v &&& 0xFE } }
  | 0x08 => { t with pf := { t.pf with colupf := v &&& 0xFE } }
  | 0x09 => { t with pf := { t.pf with colubk := v &&& 0xFE } }
  | 0x0A => { t with pf := { t.pf with ctrlpf := maskSix v } }
  | 0x0B => { t with p0 := { t.p0 with refp := bit v 3 } }
  | 0x0C => { t with p1 := { t.p1 with refp := bit v 3 } }
  | 0x0D => { t with pf := { t.pf with pf0 := highNibble v } }
  | 0x0E => { t with pf := { t.pf with pf1 := v } }
  | 0x0F => { t with pf := { t.pf with pf2 := v } }
  | 0x10 => { t with p0 := { t.p0 with pos := playerStrobe t.beam.hcount } }
  | 0x11 => { t with p1 := { t.p1 with pos := playerStrobe t.beam.hcount } }
  | 0x12 => { t with m0 := { t.m0 with pos := missileStrobe t.beam.hcount } }
  | 0x13 => { t with m1 := { t.m1 with pos := missileStrobe t.beam.hcount } }
  | 0x14 => { t with bl := { t.bl with pos := missileStrobe t.beam.hcount } }
  | 0x15 => { t with ch0 := { t.ch0 with audc := v.setWidth 4 } }
  | 0x16 => { t with ch1 := { t.ch1 with audc := v.setWidth 4 } }
  | 0x17 => { t with ch0 := { t.ch0 with audf := v.setWidth 5 } }
  | 0x18 => { t with ch1 := { t.ch1 with audf := v.setWidth 5 } }
  | 0x19 => { t with ch0 := { t.ch0 with audv := v.setWidth 4 } }
  | 0x1A => { t with ch1 := { t.ch1 with audv := v.setWidth 4 } }
  | 0x1B => writeGrp0 v t
  | 0x1C => writeGrp1 v t
  | 0x1D => { t with m0 := { t.m0 with enam := bit v 1 } }
  | 0x1E => { t with m1 := { t.m1 with enam := bit v 1 } }
  | 0x1F => { t with bl := { t.bl with enablNew := bit v 1 } }
  | 0x20 => { t with p0 := { t.p0 with hm := highNibble v } }
  | 0x21 => { t with p1 := { t.p1 with hm := highNibble v } }
  | 0x22 => { t with m0 := { t.m0 with hm := highNibble v } }
  | 0x23 => { t with m1 := { t.m1 with hm := highNibble v } }
  | 0x24 => { t with bl := { t.bl with hm := highNibble v } }
  | 0x25 => { t with p0 := { t.p0 with vdel := bit v 0 } }
  | 0x26 => { t with p1 := { t.p1 with vdel := bit v 0 } }
  | 0x27 => { t with bl := { t.bl with vdel := bit v 0 } }
  | 0x28 => { t with m0 := lockMissile v t.p0 t.m0 }
  | 0x29 => { t with m1 := lockMissile v t.p1 t.m1 }
  | 0x2A => hmove blankMax t
  | 0x2B => hmclr t
  | 0x2C => { t with cx := Collisions.clear }
  | _ => t

/-- What a TIA write puts out: `EndOfFrame` at the rising edge of VSYNC (rule R367). -/
def tiaStoreEvents (reg : BitVec 6) (v : Byte) (t : Tia) : List OutEvent :=
  if reg = 0x00 ∧ t.sync.vsync = false ∧ bit v 1 = true then [.endOfFrame] else []

end Sys2Proof.Machine
end

