-- ==== Sys2Proof/Machine/Bus.lean ====
section
/-!
DEFINITION. The bus: the address decoder, the clocking of the chips, the WSYNC hold, and the two bus cycles `Rd` and
`Wr`, which are the only things a CPU cycle can be (rules R10, R60 to R81).
-/

namespace Sys2Proof.Machine

/-- Where a bus address leads (rule R65 table M-1). -/
inductive Target where
  /-- The cartridge window, offset `a[11:0]`. -/
  | cartridge (off : BitVec 12)
  /-- The TIA, register `a[5:0]`. -/
  | tia (reg : BitVec 6)
  /-- RAM, index `a[6:0]`. -/
  | ram (i : BitVec 7)
  /-- The RIOT, register `a[4:0]`. -/
  | riot (sel : BitVec 5)
  deriving DecidableEq, Repr

/-- `addr[12:0]`, the part of a CPU address that reaches the bus (rule R64). -/
def busAddr (addr : Word) : BitVec 13 := addr.setWidth 13

/-- The address decoder (rules R65 to R69). -/
def decodeBus (a : BitVec 13) : Target :=
  if a.getLsbD 12 then .cartridge (a.setWidth 12)
  else if !a.getLsbD 7 then .tia (a.setWidth 6)
  else if !a.getLsbD 9 then .ram (a.setWidth 7)
  else .riot (a.setWidth 5)

/-- One chip-cycle of the TIA, its output added to the history (rule R365). -/
def clockTia (s : State) : State :=
  { s with tia := (tiaClock s.par s.inp s.tia).1, out := (tiaClock s.par s.inp s.tia).2 ++ s.out }

/-- `AdvanceChips`: one CPU cycle of time, three chip-cycles and one RIOT tick (rule R62). -/
def advanceChips (s : State) : State :=
  let s := clockTia (clockTia (clockTia s))
  { s with cyc := s.cyc + 1, riot := riotTick s.riot }

/-- The WSYNC hold: `AdvanceChips` while `tia.wsync` is set, at most the given number of times (rules R62, R372). -/
def holdFor : Nat → State → State
  | 0, s => s
  | n + 1, s => if s.tia.beam.wsync then holdFor n (advanceChips s) else s

/-- The hold before a read cycle.  A scanline is 76 CPU cycles, so the bit is clear within 76 (rules R62, R315,
R372). -/
def hold (s : State) : State := holdFor 76 s

/-- `Route_read` with the mapper's snoop before it (rules R62, R66 to R70). -/
def routeRead (a : BitVec 13) (s : State) : Byte × State :=
  let s := { s with map := snoop .read a s.dbus s.map }
  match decodeBus a with
  | .cartridge off => ((mapRead off s.dbus s.map).1, { s with map := (mapRead off s.dbus s.map).2 })
  | .tia reg => (tiaRead s.inp s.dbus s.tia reg, s)
  | .ram i => (readCell s.ram i.toNat, s)
  | .riot sel => ((riotRead sel s.inp s.riot).1, { s with riot := (riotRead sel s.inp s.riot).2 })

/-- A TIA write with its output.  An RSYNC write under `RSYNC_POLICY = fault` raises: it leaves a provisional
record in `fault`, which `complete` replaces by the record of the instruction that made the write (rules R367,
R373). -/
def writeTia (reg : BitVec 6) (v : Byte) (s : State) : State :=
  { s with
    tia := tiaStore s.par.hmoveBlankMax reg v s.tia
    out := tiaStoreEvents reg v s.tia ++ s.out
    fault := if reg = 0x03 ∧ s.par.rsyncPolicy = .fault then some ⟨0x00, 0x0000⟩ else s.fault }

/-- `Route_write` with the mapper's snoop before it (rules R62, R66 to R69). -/
def routeWrite (a : BitVec 13) (v : Byte) (s : State) : State :=
  let s := { s with map := snoop .write a v s.map }
  match decodeBus a with
  | .cartridge off => { s with map := mapWrite off v s.map }
  | .tia reg => writeTia reg v s
  | .ram i => { s with ram := writeCell s.ram i.toNat v }
  | .riot sel => { s with riot := riotWrite sel v s.riot }

/-- A read without a cycle, `ReadNoCycle` (rule R81). -/
def readNoCycle (addr : Word) (s : State) : Byte × State :=
  ((routeRead (busAddr addr) s).1,
   { (routeRead (busAddr addr) s).2 with dbus := (routeRead (busAddr addr) s).1 })

/-- `Rd(addr)`: the hold, one CPU cycle of time, then the access (rule R62). -/
def rd (addr : Word) (s : State) : Byte × State :=
  readNoCycle addr (advanceChips (hold s))

/-- `Wr(addr, v)`: one CPU cycle of time, then the access; a write is not held (rules R62, R372). -/
def wr (addr : Word) (v : Byte) (s : State) : State :=
  let s := advanceChips s
  routeWrite (busAddr addr) v { s with dbus := v }

end Sys2Proof.Machine
end

