-- ==== Sys2Proof/Machine/Flags.lean ====
section
/-!
DEFINITION. The flag computations: the status byte, N and Z, addition and subtraction in binary and in decimal,
comparison, the four shifts, increment and decrement, and the bit test (rules R11, R24, R201 to R221).
-/

namespace Sys2Proof.Machine

/-- A result byte and the flags after the operation. -/
structure Alu where
  value : Byte
  p : Flags
  deriving DecidableEq, Repr

/-- `PByte(1)`, the byte PHP and BRK push: `N V 1 1 D I Z C` (rules R24, R184). -/
def statusByte (p : Flags) : Byte :=
  bitAt 7 p.n ||| bitAt 6 p.v ||| 0x30 ||| bitAt 3 p.d ||| bitAt 2 p.i ||| bitAt 1 p.z ||| bitAt 0 p.c

/-- The six flags from a pulled byte; bits 5 and 4 are ignored (rules R24, R186). -/
def flagsOf (m : Byte) : Flags where
  n := bit m 7
  v := bit m 6
  d := bit m 3
  i := bit m 2
  z := bit m 1
  c := bit m 0

/-- `SetNZ(v)` (rule R11). -/
def setNZ (v : Byte) (p : Flags) : Flags := { p with z := decide (v = 0x00), n := bit v 7 }

/-- The carry as a number. -/
def carry (p : Flags) : Nat := p.c.toNat

/-- Binary addition with carry (rule R201). -/
def addBinary (a m : Byte) (p : Flags) : Alu :=
  let sum := a.toNat + m.toNat + carry p
  let r := BitVec.ofNat 8 sum
  { value := r
    p := setNZ r { p with c := decide (256 ≤ sum), v := bit (~~~(a ^^^ m) &&& (a ^^^ r)) 7 } }

/-- Binary subtraction with borrow: addition of the complement (rule R202). -/
def subBinary (a m : Byte) (p : Flags) : Alu := addBinary a (~~~m) p

/-- A digit pair `hi[3:0] : lo[3:0]` of two integers, two's complement (rule R203). -/
def digits (hi lo : Int) : Byte := BitVec.ofInt 4 hi ++ BitVec.ofInt 4 lo

/-- Decimal addition (rule R203). -/
def addDecimal (a m : Byte) (p : Flags) : Alu :=
  let al := a.toNat % 16 + m.toNat % 16 + carry p
  let ah := a.toNat / 16 + m.toNat / 16 + (if 9 < al then 1 else 0)
  let al' := if 9 < al then al + 6 else al
  let ah' := if 9 < ah then ah + 6 else ah
  { value := digits ah' al'
    p := { p with
      z := decide (BitVec.ofNat 8 (a.toNat + m.toNat + carry p) = 0x00)
      n := ah.testBit 3
      v := (ah.testBit 3 ^^ bit a 7) && !bit (a ^^^ m) 7
      c := decide (15 < ah') } }

/-- Decimal subtraction: the flags of the binary one (rule R203). -/
def subDecimal (a m : Byte) (p : Flags) : Alu :=
  let al : Int := (a.toNat % 16 : Nat) - (m.toNat % 16 : Nat) - (1 - (carry p : Nat))
  let al' := if al < 0 then al - 6 else al
  let ah : Int := (a.toNat / 16 : Nat) - (m.toNat / 16 : Nat) - (if al < 0 then 1 else 0)
  let ah' := if ah < 0 then ah - 6 else ah
  { value := digits ah' al', p := (subBinary a m p).p }

/-- Whether ADC and SBC compute in decimal (rules R26, R203). -/
def inDecimal (par : Params) (p : Flags) : Bool := decide (par.decimalMode = .nmosBcd) && p.d

/-- The addition of ADC (rules R201, R203). -/
def addWithCarry (par : Params) (a m : Byte) (p : Flags) : Alu :=
  if inDecimal par p then addDecimal a m p else addBinary a m p

/-- The subtraction of SBC (rules R202, R203). -/
def subWithBorrow (par : Params) (a m : Byte) (p : Flags) : Alu :=
  if inDecimal par p then subDecimal a m p else subBinary a m p

/-- The flags of a comparison (rules R207 to R209): C is unsigned "at least". -/
def compareFlags (r m : Byte) (p : Flags) : Flags := setNZ (r - m) { p with c := decide (m.toNat ≤ r.toNat) }

/-- The flags of BIT (rule R210). -/
def bitTest (a m : Byte) (p : Flags) : Flags :=
  { p with z := decide (a &&& m = 0x00), n := bit m 7, v := bit m 6 }

/-- ASL (rule R217). -/
def shiftLeft (v : Byte) (p : Flags) : Alu :=
  let r := v <<< 1
  { value := r, p := setNZ r { p with c := bit v 7 } }

/-- LSR (rule R218). -/
def shiftRight (v : Byte) (p : Flags) : Alu :=
  let r := v >>> 1
  { value := r, p := setNZ r { p with c := bit v 0 } }

/-- ROL (rule R219). -/
def rotateLeft (v : Byte) (p : Flags) : Alu :=
  let r := (v <<< 1) ||| bitAt 0 p.c
  { value := r, p := setNZ r { p with c := bit v 7 } }

/-- ROR (rule R220). -/
def rotateRight (v : Byte) (p : Flags) : Alu :=
  let r := (v >>> 1) ||| bitAt 7 p.c
  { value := r, p := setNZ r { p with c := bit v 0 } }

/-- INC, INX, INY (rules R211, R213, R214). -/
def increment (v : Byte) (p : Flags) : Alu := { value := v + 1, p := setNZ (v + 1) p }

/-- DEC, DEX, DEY (rules R212, R215, R216). -/
def decrement (v : Byte) (p : Flags) : Alu := { value := v - 1, p := setNZ (v - 1) p }

end Sys2Proof.Machine
end

