-- ==== Sys2Proof/Machine/Ops.lean ====
section
/-!
DEFINITION. The named operations over registers and the bus: the register writes, the fetch and dummy cycles, the
stack, taking a trap and returning from one, raising the fault, and the end of an instruction (rules R9 to R12, R22,
R23, R302 to R307).
-/

namespace Sys2Proof.Machine

/-! ### Registers -/

/-- All the registers at once (rule R9). -/
def State.setCpu (s : State) (c : Cpu) : State := { s with cpu := c }

/-- `A <- v` (rule R9). -/
def State.setA (s : State) (v : Byte) : State := { s with cpu := { s.cpu with a := v } }

/-- `X <- v` (rule R9). -/
def State.setX (s : State) (v : Byte) : State := { s with cpu := { s.cpu with x := v } }

/-- `Y <- v` (rule R9). -/
def State.setY (s : State) (v : Byte) : State := { s with cpu := { s.cpu with y := v } }

/-- `S <- v` (rule R9). -/
def State.setSp (s : State) (v : Byte) : State := { s with cpu := { s.cpu with sp := v } }

/-- `PC <- t` (rule R9). -/
def State.setPc (s : State) (t : Word) : State := { s with cpu := { s.cpu with pc := t } }

/-- The flags `P` (rule R9). -/
def State.setP (s : State) (p : Flags) : State := { s with cpu := { s.cpu with p := p } }

/-- `SetNZ(v)` on the state (rule R11). -/
def State.setNZ (s : State) (v : Byte) : State := s.setP (Machine.setNZ v s.cpu.p)

/-! ### Fetch and dummy cycles -/

/-- `Rd(PC); PC <- PC + 1`, the byte with the state (rule R146). -/
def fetchByte (s : State) : Byte × State :=
  let r := rd s.cpu.pc s
  (r.1, r.2.setPc (r.2.cpu.pc + 1))

/-- A fetch cycle of a byte that is already known from the instruction (rules R12, R146). -/
def fetchCycle (s : State) : State := (fetchByte s).2

/-- The fetch cycles of the opcode and the operand bytes, `n` in all (rules R146 to R158). -/
def fetchCycles : Nat → State → State
  | 0, s => s
  | n + 1, s => fetchCycles n (fetchCycle s)

/-- A dummy read: a real access whose value is not used (rules R10, R14). -/
def dummyRead (addr : Word) (s : State) : State := (rd addr s).2

/-- A dummy read at `PC`, which is not incremented (rule R147). -/
def idleCycle (s : State) : State := dummyRead s.cpu.pc s

/-- `n` dummy reads at `PC`. -/
def idleCycles : Nat → State → State
  | 0, s => s
  | n + 1, s => idleCycles n (idleCycle s)

/-- The opcode fetch and the dummy read of an implied or accumulator instruction (rule R147). -/
def impliedCycles (s : State) : State := idleCycle (fetchCycle s)

/-! ### The stack -/

/-- `0x0100 + S` (rule R22). -/
def stackAddr (s : State) : Word := word 0x01 s.cpu.sp

/-- `Push(v)` (rules R11, R22). -/
def push (v : Byte) (s : State) : State :=
  let t := wr (stackAddr s) v s
  t.setSp (t.cpu.sp - 1)

/-- `Pull()` (rules R11, R22). -/
def pull (s : State) : Byte × State :=
  let s := s.setSp (s.cpu.sp + 1)
  rd (stackAddr s) s

/-- A dummy read at the stack pointer, which stays (rules R185, R258, R259, R263). -/
def stackIdle (s : State) : State := dummyRead (stackAddr s) s

/-- The two pushes of `PC`, high byte first (rules R258, R262, R304). -/
def pushPc (s : State) : State :=
  let s := push (hiByte s.cpu.pc) s
  push (loByte s.cpu.pc) s

/-- The dummy stack read and the two pushes of JSR, its cycles `c3` to `c5` (rule R258). -/
def callCycles (s : State) : State := pushPc (stackIdle s)

/-! ### Taking a trap, returning from one -/

/-- The word at an address, low byte first, by two read cycles (rules R71, R72). -/
def readVector (addr : Word) (s : State) : Word × State :=
  let lo := rd addr s
  let hi := rd (addr + 1) lo.2
  (word hi.1 lo.1, hi.2)

/-- Trap entry, with `PC` the address to return to (rules R262 `c3` to `c7`, R304): `PC` and the status byte go to the
stack, `I` is set, `PC` comes from the vector at `0xFFFE`. -/
def takeTrap (s : State) : State :=
  let s := pushPc s
  let s := push (statusByte s.cpu.p) s
  let r := readVector 0xFFFE s
  (r.2.setP { r.2.cpu.p with i := true }).setPc r.1

/-- The pull of the status byte into the six flags (rules R186, R263). -/
def pullFlags (s : State) : State :=
  let r := pull s
  r.2.setP (flagsOf r.1)

/-- The pull of `PC`, low byte first (rules R259, R263). -/
def pullPc (s : State) : State :=
  let lo := pull s
  let hi := pull lo.2
  hi.2.setPc (word hi.1 lo.1)

/-- Trap return, RTI's cycles `c3` to `c6` (rules R263, R305). -/
def returnFromTrap (s : State) : State := pullPc (pullFlags (stackIdle s))

/-! ### The fault and the end of an instruction -/

/-- `raise UnsupportedOpcode(op, at)` in the state before the step: nothing but `fault` changes (rules R11, R280,
R302). -/
def raise (op : Byte) (s : State) : State := { s with fault := some ⟨op, s.cpu.pc⟩ }

/-- The end of the instruction with opcode `op` that took `before` to `after`.  An instruction whose write raised (rule
R373) is discarded and the fault taken in the state before it, as rule R280 says (log entry 6). -/
def complete (op : Byte) (before after : State) : Result :=
  match after.fault with
  | none => .next after
  | some _ => .next (raise op before)

end Sys2Proof.Machine
end

