-- ==== Sys2Proof/Machine/Operands.lean ====
section
/-!
DEFINITION. The addressing modes: the effective address of each with its cycles, and the three operand classes, read,
write and read-modify-write (rules R141, R142, R145 to R158, R284).  Every list here begins with the opcode fetch.
-/

namespace Sys2Proof.Machine

/-! ### Effective addresses: the address, and the state after the cycles that lead to it -/

/-- `zp` (rule R149). -/
def addrZp (b1 : Byte) (s : State) : Word × State := (zext b1, fetchCycles 2 s)

/-- `zpx` and `zpy` with index `i`: the sum wraps in page 0 (rule R150). -/
def addrZpIndexed (b1 i : Byte) (s : State) : Word × State :=
  (zext (b1 + i), dummyRead (zext b1) (fetchCycles 2 s))

/-- `abs` (rule R151). -/
def addrAbs (lo hi : Byte) (s : State) : Word × State := (word hi lo, fetchCycles 3 s)

/-- `izx`: both pointer bytes come from page 0 (rule R155). -/
def addrIzX (b1 : Byte) (s : State) : Word × State :=
  let s := dummyRead (zext b1) (fetchCycles 2 s)
  let lo := rd (zext (b1 + s.cpu.x)) s
  let hi := rd (zext (b1 + s.cpu.x + 1)) lo.2
  (word hi.1 lo.1, hi.2)

/-- The base address of `izy`, the word its zero-page pointer holds (rule R156 `c2` to `c4`). -/
def pointerIzY (b1 : Byte) (s : State) : Word × State :=
  let lo := rd (zext b1) (fetchCycles 2 s)
  let hi := rd (zext (b1 + 1)) lo.2
  (word hi.1 lo.1, hi.2)

/-- `ea`, the indexed address (rules R152, R156). -/
def indexed (base : Word) (i : Byte) : Word := base + zext i

/-- `t`, the indexed address before the carry reaches its high byte (rules R152, R156). -/
def uncorrected (base : Word) (i : Byte) : Word := word (hiByte base) (loByte base + i)

/-- The address of an indexed write or read-modify-write: the dummy read at `t` is always made (rules R153, R154,
R157, R284). -/
def addrIndexed (i : Byte) (b : Word × State) : Word × State :=
  (indexed b.1 i, dummyRead (uncorrected b.1 i) b.2)

/-- `abx` of class write or rmw (rules R153, R154). -/
def addrAbsX (lo hi : Byte) (s : State) : Word × State := addrIndexed s.cpu.x (addrAbs lo hi s)

/-- `aby` of class write or rmw (rules R153, R284). -/
def addrAbsY (lo hi : Byte) (s : State) : Word × State := addrIndexed s.cpu.y (addrAbs lo hi s)

/-- `izy` of class write or rmw (rules R157, R284). -/
def addrIzY (b1 : Byte) (s : State) : Word × State := addrIndexed s.cpu.y (pointerIzY b1 s)

/-! ### Class read: the operand byte, and the state after its cycles -/

/-- The read of the operand at an effective address. -/
def readAt (e : Word × State) : Byte × State := rd e.1 e.2

/-- The indexed read: at `t`, and again at `ea` when the page is crossed (rules R152, R156). -/
def readIndexed (i : Byte) (b : Word × State) : Byte × State :=
  let r := rd (uncorrected b.1 i) b.2
  if uncorrected b.1 i = indexed b.1 i then r else rd (indexed b.1 i) r.2

/-- `imm` (rule R148). -/
def readImm (b1 : Byte) (s : State) : Byte × State := (b1, fetchCycles 2 s)

def readZp (b1 : Byte) (s : State) : Byte × State := readAt (addrZp b1 s)

def readZpX (b1 : Byte) (s : State) : Byte × State := readAt (addrZpIndexed b1 s.cpu.x s)

def readZpY (b1 : Byte) (s : State) : Byte × State := readAt (addrZpIndexed b1 s.cpu.y s)

def readAbs (lo hi : Byte) (s : State) : Byte × State := readAt (addrAbs lo hi s)

def readAbsX (lo hi : Byte) (s : State) : Byte × State := readIndexed s.cpu.x (addrAbs lo hi s)

def readAbsY (lo hi : Byte) (s : State) : Byte × State := readIndexed s.cpu.y (addrAbs lo hi s)

def readIzX (b1 : Byte) (s : State) : Byte × State := readAt (addrIzX b1 s)

def readIzY (b1 : Byte) (s : State) : Byte × State := readIndexed s.cpu.y (pointerIzY b1 s)

/-! ### Classes write and read-modify-write -/

/-- The write of a register at an effective address (rules R149 to R157). -/
def storeAt (v : Byte) (e : Word × State) : State := wr e.1 v e.2

/-- The read, the write of the unmodified byte, the write of the result; the flags with it, and the result byte for
the instructions that go on with it (rules R74, R149 to R154, R159, R284). -/
def modifyAt (f : Byte → Flags → Alu) (e : Word × State) : Byte × State :=
  let m := rd e.1 e.2
  let r := f m.1 m.2.cpu.p
  (r.value, (wr e.1 r.value (wr e.1 m.1 m.2)).setP r.p)

end Sys2Proof.Machine
end

