-- ==== Sys2Proof/Machine/Arithmetic.lean ====
section
/-!
DEFINITION. The arithmetic, logic, compare, increment and shift instructions (rules R200 to R221).
-/

namespace Sys2Proof.Machine

/-! ### The shared operations: the operand byte and the state after its cycles come in, the state goes out -/

/-- The accumulator and the flags from an ALU result. -/
def State.setAlu (s : State) (r : Alu) : State := (s.setA r.value).setP r.p

/-- ADC of an operand byte (rules R201, R203). -/
def adc (r : Byte × State) : State := r.2.setAlu (addWithCarry r.2.par r.2.cpu.a r.1 r.2.cpu.p)

/-- SBC of an operand byte (rules R202, R203). -/
def sbc (r : Byte × State) : State := r.2.setAlu (subWithBorrow r.2.par r.2.cpu.a r.1 r.2.cpu.p)

/-- A logic operation's result into `A`, with N and Z. -/
def State.setLogic (s : State) (v : Byte) : State := (s.setA v).setNZ v

/-- AND of an operand byte (rule R204). -/
def andA (r : Byte × State) : State := r.2.setLogic (r.2.cpu.a &&& r.1)

/-- ORA of an operand byte (rule R205). -/
def oraA (r : Byte × State) : State := r.2.setLogic (r.2.cpu.a ||| r.1)

/-- EOR of an operand byte (rule R206). -/
def eorA (r : Byte × State) : State := r.2.setLogic (r.2.cpu.a ^^^ r.1)

/-- CMP with an operand byte (rule R207). -/
def cmpA (r : Byte × State) : State := r.2.setP (compareFlags r.2.cpu.a r.1 r.2.cpu.p)

/-- CPX with an operand byte (rule R208). -/
def cmpX (r : Byte × State) : State := r.2.setP (compareFlags r.2.cpu.x r.1 r.2.cpu.p)

/-- CPY with an operand byte (rule R209). -/
def cmpY (r : Byte × State) : State := r.2.setP (compareFlags r.2.cpu.y r.1 r.2.cpu.p)

/-- BIT of an operand byte (rule R210). -/
def testBits (r : Byte × State) : State := r.2.setP (bitTest r.2.cpu.a r.1 r.2.cpu.p)

/-- A shift of the accumulator (rules R217 to R220). -/
def modifyA (f : Byte → Flags → Alu) (s : State) : State := s.setAlu (f s.cpu.a s.cpu.p)

/-! ### The instructions -/

/-- ADC `(zp,X)`, `0x61` (rule R201). -/
def execAdcIzX (b1 : Byte) (s : State) : Result :=
  complete 0x61 s (adc (readIzX b1 s))

/-- ADC `zp`, `0x65` (rule R201). -/
def execAdcZp (b1 : Byte) (s : State) : Result :=
  complete 0x65 s (adc (readZp b1 s))

/-- ADC immediate, `0x69` (rule R201). -/
def execAdcImm (b1 : Byte) (s : State) : Result :=
  complete 0x69 s (adc (readImm b1 s))

/-- ADC `abs`, `0x6D` (rule R201). -/
def execAdcAbs (lo hi : Byte) (s : State) : Result :=
  complete 0x6D s (adc (readAbs lo hi s))

/-- ADC `(zp),Y`, `0x71` (rule R201). -/
def execAdcIzY (b1 : Byte) (s : State) : Result :=
  complete 0x71 s (adc (readIzY b1 s))

/-- ADC `zp,X`, `0x75` (rule R201). -/
def execAdcZpX (b1 : Byte) (s : State) : Result :=
  complete 0x75 s (adc (readZpX b1 s))

/-- ADC `abs,Y`, `0x79` (rule R201). -/
def execAdcAbsY (lo hi : Byte) (s : State) : Result :=
  complete 0x79 s (adc (readAbsY lo hi s))

/-- ADC `abs,X`, `0x7D` (rule R201). -/
def execAdcAbsX (lo hi : Byte) (s : State) : Result :=
  complete 0x7D s (adc (readAbsX lo hi s))

/-- SBC `(zp,X)`, `0xE1` (rule R202). -/
def execSbcIzX (b1 : Byte) (s : State) : Result :=
  complete 0xE1 s (sbc (readIzX b1 s))

/-- SBC `zp`, `0xE5` (rule R202). -/
def execSbcZp (b1 : Byte) (s : State) : Result :=
  complete 0xE5 s (sbc (readZp b1 s))

/-- SBC immediate, `0xE9` (rule R202). -/
def execSbcImm (b1 : Byte) (s : State) : Result :=
  complete 0xE9 s (sbc (readImm b1 s))

/-- SBC `abs`, `0xED` (rule R202). -/
def execSbcAbs (lo hi : Byte) (s : State) : Result :=
  complete 0xED s (sbc (readAbs lo hi s))

/-- SBC `(zp),Y`, `0xF1` (rule R202). -/
def execSbcIzY (b1 : Byte) (s : State) : Result :=
  complete 0xF1 s (sbc (readIzY b1 s))

/-- SBC `zp,X`, `0xF5` (rule R202). -/
def execSbcZpX (b1 : Byte) (s : State) : Result :=
  complete 0xF5 s (sbc (readZpX b1 s))

/-- SBC `abs,Y`, `0xF9` (rule R202). -/
def execSbcAbsY (lo hi : Byte) (s : State) : Result :=
  complete 0xF9 s (sbc (readAbsY lo hi s))

/-- SBC `abs,X`, `0xFD` (rule R202). -/
def execSbcAbsX (lo hi : Byte) (s : State) : Result :=
  complete 0xFD s (sbc (readAbsX lo hi s))

/-- AND `(zp,X)`, `0x21` (rule R204). -/
def execAndIzX (b1 : Byte) (s : State) : Result :=
  complete 0x21 s (andA (readIzX b1 s))

/-- AND `zp`, `0x25` (rule R204). -/
def execAndZp (b1 : Byte) (s : State) : Result :=
  complete 0x25 s (andA (readZp b1 s))

/-- AND immediate, `0x29` (rule R204). -/
def execAndImm (b1 : Byte) (s : State) : Result :=
  complete 0x29 s (andA (readImm b1 s))

/-- AND `abs`, `0x2D` (rule R204). -/
def execAndAbs (lo hi : Byte) (s : State) : Result :=
  complete 0x2D s (andA (readAbs lo hi s))

/-- AND `(zp),Y`, `0x31` (rule R204). -/
def execAndIzY (b1 : Byte) (s : State) : Result :=
  complete 0x31 s (andA (readIzY b1 s))

/-- AND `zp,X`, `0x35` (rule R204). -/
def execAndZpX (b1 : Byte) (s : State) : Result :=
  complete 0x35 s (andA (readZpX b1 s))

/-- AND `abs,Y`, `0x39` (rule R204). -/
def execAndAbsY (lo hi : Byte) (s : State) : Result :=
  complete 0x39 s (andA (readAbsY lo hi s))

/-- AND `abs,X`, `0x3D` (rule R204). -/
def execAndAbsX (lo hi : Byte) (s : State) : Result :=
  complete 0x3D s (andA (readAbsX lo hi s))

/-- ORA `(zp,X)`, `0x01` (rule R205). -/
def execOraIzX (b1 : Byte) (s : State) : Result :=
  complete 0x01 s (oraA (readIzX b1 s))

/-- ORA `zp`, `0x05` (rule R205). -/
def execOraZp (b1 : Byte) (s : State) : Result :=
  complete 0x05 s (oraA (readZp b1 s))

/-- ORA immediate, `0x09` (rule R205). -/
def execOraImm (b1 : Byte) (s : State) : Result :=
  complete 0x09 s (oraA (readImm b1 s))

/-- ORA `abs`, `0x0D` (rule R205). -/
def execOraAbs (lo hi : Byte) (s : State) : Result :=
  complete 0x0D s (oraA (readAbs lo hi s))

/-- ORA `(zp),Y`, `0x11` (rule R205). -/
def execOraIzY (b1 : Byte) (s : State) : Result :=
  complete 0x11 s (oraA (readIzY b1 s))

/-- ORA `zp,X`, `0x15` (rule R205). -/
def execOraZpX (b1 : Byte) (s : State) : Result :=
  complete 0x15 s (oraA (readZpX b1 s))

/-- ORA `abs,Y`, `0x19` (rule R205). -/
def execOraAbsY (lo hi : Byte) (s : State) : Result :=
  complete 0x19 s (oraA (readAbsY lo hi s))

/-- ORA `abs,X`, `0x1D` (rule R205). -/
def execOraAbsX (lo hi : Byte) (s : State) : Result :=
  complete 0x1D s (oraA (readAbsX lo hi s))

/-- EOR `(zp,X)`, `0x41` (rule R206). -/
def execEorIzX (b1 : Byte) (s : State) : Result :=
  complete 0x41 s (eorA (readIzX b1 s))

/-- EOR `zp`, `0x45` (rule R206). -/
def execEorZp (b1 : Byte) (s : State) : Result :=
  complete 0x45 s (eorA (readZp b1 s))

/-- EOR immediate, `0x49` (rule R206). -/
def execEorImm (b1 : Byte) (s : State) : Result :=
  complete 0x49 s (eorA (readImm b1 s))

/-- EOR `abs`, `0x4D` (rule R206). -/
def execEorAbs (lo hi : Byte) (s : State) : Result :=
  complete 0x4D s (eorA (readAbs lo hi s))

/-- EOR `(zp),Y`, `0x51` (rule R206). -/
def execEorIzY (b1 : Byte) (s : State) : Result :=
  complete 0x51 s (eorA (readIzY b1 s))

/-- EOR `zp,X`, `0x55` (rule R206). -/
def execEorZpX (b1 : Byte) (s : State) : Result :=
  complete 0x55 s (eorA (readZpX b1 s))

/-- EOR `abs,Y`, `0x59` (rule R206). -/
def execEorAbsY (lo hi : Byte) (s : State) : Result :=
  complete 0x59 s (eorA (readAbsY lo hi s))

/-- EOR `abs,X`, `0x5D` (rule R206). -/
def execEorAbsX (lo hi : Byte) (s : State) : Result :=
  complete 0x5D s (eorA (readAbsX lo hi s))

/-- CMP `(zp,X)`, `0xC1` (rule R207). -/
def execCmpIzX (b1 : Byte) (s : State) : Result :=
  complete 0xC1 s (cmpA (readIzX b1 s))

/-- CMP `zp`, `0xC5` (rule R207). -/
def execCmpZp (b1 : Byte) (s : State) : Result :=
  complete 0xC5 s (cmpA (readZp b1 s))

/-- CMP immediate, `0xC9` (rule R207). -/
def execCmpImm (b1 : Byte) (s : State) : Result :=
  complete 0xC9 s (cmpA (readImm b1 s))

/-- CMP `abs`, `0xCD` (rule R207). -/
def execCmpAbs (lo hi : Byte) (s : State) : Result :=
  complete 0xCD s (cmpA (readAbs lo hi s))

/-- CMP `(zp),Y`, `0xD1` (rule R207). -/
def execCmpIzY (b1 : Byte) (s : State) : Result :=
  complete 0xD1 s (cmpA (readIzY b1 s))

/-- CMP `zp,X`, `0xD5` (rule R207). -/
def execCmpZpX (b1 : Byte) (s : State) : Result :=
  complete 0xD5 s (cmpA (readZpX b1 s))

/-- CMP `abs,Y`, `0xD9` (rule R207). -/
def execCmpAbsY (lo hi : Byte) (s : State) : Result :=
  complete 0xD9 s (cmpA (readAbsY lo hi s))

/-- CMP `abs,X`, `0xDD` (rule R207). -/
def execCmpAbsX (lo hi : Byte) (s : State) : Result :=
  complete 0xDD s (cmpA (readAbsX lo hi s))

/-- CPX immediate, `0xE0` (rule R208). -/
def execCpxImm (b1 : Byte) (s : State) : Result :=
  complete 0xE0 s (cmpX (readImm b1 s))

/-- CPX `zp`, `0xE4` (rule R208). -/
def execCpxZp (b1 : Byte) (s : State) : Result :=
  complete 0xE4 s (cmpX (readZp b1 s))

/-- CPX `abs`, `0xEC` (rule R208). -/
def execCpxAbs (lo hi : Byte) (s : State) : Result :=
  complete 0xEC s (cmpX (readAbs lo hi s))

/-- CPY immediate, `0xC0` (rule R209). -/
def execCpyImm (b1 : Byte) (s : State) : Result :=
  complete 0xC0 s (cmpY (readImm b1 s))

/-- CPY `zp`, `0xC4` (rule R209). -/
def execCpyZp (b1 : Byte) (s : State) : Result :=
  complete 0xC4 s (cmpY (readZp b1 s))

/-- CPY `abs`, `0xCC` (rule R209). -/
def execCpyAbs (lo hi : Byte) (s : State) : Result :=
  complete 0xCC s (cmpY (readAbs lo hi s))

/-- BIT `zp`, `0x24` (rule R210). -/
def execBitZp (b1 : Byte) (s : State) : Result :=
  complete 0x24 s (testBits (readZp b1 s))

/-- BIT `abs`, `0x2C` (rule R210). -/
def execBitAbs (lo hi : Byte) (s : State) : Result :=
  complete 0x2C s (testBits (readAbs lo hi s))

/-- INC `zp`, `0xE6` (rule R211). -/
def execIncZp (b1 : Byte) (s : State) : Result :=
  complete 0xE6 s ((modifyAt increment (addrZp b1 s)).2)

/-- INC `abs`, `0xEE` (rule R211). -/
def execIncAbs (lo hi : Byte) (s : State) : Result :=
  complete 0xEE s ((modifyAt increment (addrAbs lo hi s)).2)

/-- INC `zp,X`, `0xF6` (rule R211). -/
def execIncZpX (b1 : Byte) (s : State) : Result :=
  complete 0xF6 s ((modifyAt increment (addrZpIndexed b1 s.cpu.x s)).2)

/-- INC `abs,X`, `0xFE` (rule R211). -/
def execIncAbsX (lo hi : Byte) (s : State) : Result :=
  complete 0xFE s ((modifyAt increment (addrAbsX lo hi s)).2)

/-- DEC `zp`, `0xC6` (rule R212). -/
def execDecZp (b1 : Byte) (s : State) : Result :=
  complete 0xC6 s ((modifyAt decrement (addrZp b1 s)).2)

/-- DEC `abs`, `0xCE` (rule R212). -/
def execDecAbs (lo hi : Byte) (s : State) : Result :=
  complete 0xCE s ((modifyAt decrement (addrAbs lo hi s)).2)

/-- DEC `zp,X`, `0xD6` (rule R212). -/
def execDecZpX (b1 : Byte) (s : State) : Result :=
  complete 0xD6 s ((modifyAt decrement (addrZpIndexed b1 s.cpu.x s)).2)

/-- DEC `abs,X`, `0xDE` (rule R212). -/
def execDecAbsX (lo hi : Byte) (s : State) : Result :=
  complete 0xDE s ((modifyAt decrement (addrAbsX lo hi s)).2)

/-- INX, `0xE8` (rule R213). -/
def execInx (s : State) : Result :=
  let t := impliedCycles s
  complete 0xE8 s ((t.setX (t.cpu.x + 1)).setNZ (t.cpu.x + 1))

/-- INY, `0xC8` (rule R214). -/
def execIny (s : State) : Result :=
  let t := impliedCycles s
  complete 0xC8 s ((t.setY (t.cpu.y + 1)).setNZ (t.cpu.y + 1))

/-- DEX, `0xCA` (rule R215). -/
def execDex (s : State) : Result :=
  let t := impliedCycles s
  complete 0xCA s ((t.setX (t.cpu.x - 1)).setNZ (t.cpu.x - 1))

/-- DEY, `0x88` (rule R216). -/
def execDey (s : State) : Result :=
  let t := impliedCycles s
  complete 0x88 s ((t.setY (t.cpu.y - 1)).setNZ (t.cpu.y - 1))

/-- ASL `zp`, `0x06` (rule R217). -/
def execAslZp (b1 : Byte) (s : State) : Result :=
  complete 0x06 s ((modifyAt shiftLeft (addrZp b1 s)).2)

/-- ASL `A`, `0x0A` (rule R217). -/
def execAslAcc (s : State) : Result :=
  complete 0x0A s (modifyA shiftLeft (impliedCycles s))

/-- ASL `abs`, `0x0E` (rule R217). -/
def execAslAbs (lo hi : Byte) (s : State) : Result :=
  complete 0x0E s ((modifyAt shiftLeft (addrAbs lo hi s)).2)

/-- ASL `zp,X`, `0x16` (rule R217). -/
def execAslZpX (b1 : Byte) (s : State) : Result :=
  complete 0x16 s ((modifyAt shiftLeft (addrZpIndexed b1 s.cpu.x s)).2)

/-- ASL `abs,X`, `0x1E` (rule R217). -/
def execAslAbsX (lo hi : Byte) (s : State) : Result :=
  complete 0x1E s ((modifyAt shiftLeft (addrAbsX lo hi s)).2)

/-- LSR `zp`, `0x46` (rule R218). -/
def execLsrZp (b1 : Byte) (s : State) : Result :=
  complete 0x46 s ((modifyAt shiftRight (addrZp b1 s)).2)

/-- LSR `A`, `0x4A` (rule R218). -/
def execLsrAcc (s : State) : Result :=
  complete 0x4A s (modifyA shiftRight (impliedCycles s))

/-- LSR `abs`, `0x4E` (rule R218). -/
def execLsrAbs (lo hi : Byte) (s : State) : Result :=
  complete 0x4E s ((modifyAt shiftRight (addrAbs lo hi s)).2)

/-- LSR `zp,X`, `0x56` (rule R218). -/
def execLsrZpX (b1 : Byte) (s : State) : Result :=
  complete 0x56 s ((modifyAt shiftRight (addrZpIndexed b1 s.cpu.x s)).2)

/-- LSR `abs,X`, `0x5E` (rule R218). -/
def execLsrAbsX (lo hi : Byte) (s : State) : Result :=
  complete 0x5E s ((modifyAt shiftRight (addrAbsX lo hi s)).2)

/-- ROL `zp`, `0x26` (rule R219). -/
def execRolZp (b1 : Byte) (s : State) : Result :=
  complete 0x26 s ((modifyAt rotateLeft (addrZp b1 s)).2)

/-- ROL `A`, `0x2A` (rule R219). -/
def execRolAcc (s : State) : Result :=
  complete 0x2A s (modifyA rotateLeft (impliedCycles s))

/-- ROL `abs`, `0x2E` (rule R219). -/
def execRolAbs (lo hi : Byte) (s : State) : Result :=
  complete 0x2E s ((modifyAt rotateLeft (addrAbs lo hi s)).2)

/-- ROL `zp,X`, `0x36` (rule R219). -/
def execRolZpX (b1 : Byte) (s : State) : Result :=
  complete 0x36 s ((modifyAt rotateLeft (addrZpIndexed b1 s.cpu.x s)).2)

/-- ROL `abs,X`, `0x3E` (rule R219). -/
def execRolAbsX (lo hi : Byte) (s : State) : Result :=
  complete 0x3E s ((modifyAt rotateLeft (addrAbsX lo hi s)).2)

/-- ROR `zp`, `0x66` (rule R220). -/
def execRorZp (b1 : Byte) (s : State) : Result :=
  complete 0x66 s ((modifyAt rotateRight (addrZp b1 s)).2)

/-- ROR `A`, `0x6A` (rule R220). -/
def execRorAcc (s : State) : Result :=
  complete 0x6A s (modifyA rotateRight (impliedCycles s))

/-- ROR `abs`, `0x6E` (rule R220). -/
def execRorAbs (lo hi : Byte) (s : State) : Result :=
  complete 0x6E s ((modifyAt rotateRight (addrAbs lo hi s)).2)

/-- ROR `zp,X`, `0x76` (rule R220). -/
def execRorZpX (b1 : Byte) (s : State) : Result :=
  complete 0x76 s ((modifyAt rotateRight (addrZpIndexed b1 s.cpu.x s)).2)

/-- ROR `abs,X`, `0x7E` (rule R220). -/
def execRorAbsX (lo hi : Byte) (s : State) : Result :=
  complete 0x7E s ((modifyAt rotateRight (addrAbsX lo hi s)).2)

end Sys2Proof.Machine
end

