-- ==== Sys2Proof/Machine/Control.lean ====
section
/-!
DEFINITION. The branch, jump, subroutine, flag and system instructions (rules R240 to R265).
-/

namespace Sys2Proof.Machine

/-! ### The shared operations -/

/-- The target of a branch, from the address of the next instruction (rule R158). -/
def branchTarget (next : Word) (d : Byte) : Word := next + sext d

/-- A branch (rules R158, R241): 2 cycles if not taken, 3 if taken, 4 if taken to another page than that of the next
instruction. -/
def branch (taken : Bool) (d : Byte) (s : State) : State :=
  let s := fetchCycles 2 s
  let target := branchTarget s.cpu.pc d
  if taken then
    let t := idleCycle s
    if hiByte target = hiByte s.cpu.pc then t.setPc target
    else (dummyRead (word (hiByte s.cpu.pc) (loByte target)) t).setPc target
  else s

/-- JMP `(abs)`: the pointer's high byte is read without carry into its page (rule R257). -/
def jumpIndirect (lo hi : Byte) (s : State) : State :=
  let tl := rd (word hi lo) (fetchCycles 3 s)
  let th := rd (word hi (lo + 1)) tl.2
  th.2.setPc (word th.1 tl.1)

/-- RTS (rule R259). -/
def returnFromCall (s : State) : State :=
  let s := idleCycle (pullPc (stackIdle (impliedCycles s)))
  s.setPc (s.cpu.pc + 1)

/-! ### The instructions -/

/-- BCC, `0x90` (rule R242). -/
def execBcc (d : Byte) (s : State) : Result :=
  complete 0x90 s (branch (!s.cpu.p.c) d s)

/-- BCS, `0xB0` (rule R243). -/
def execBcs (d : Byte) (s : State) : Result :=
  complete 0xB0 s (branch (s.cpu.p.c) d s)

/-- BEQ, `0xF0` (rule R244). -/
def execBeq (d : Byte) (s : State) : Result :=
  complete 0xF0 s (branch (s.cpu.p.z) d s)

/-- BNE, `0xD0` (rule R245). -/
def execBne (d : Byte) (s : State) : Result :=
  complete 0xD0 s (branch (!s.cpu.p.z) d s)

/-- BMI, `0x30` (rule R246). -/
def execBmi (d : Byte) (s : State) : Result :=
  complete 0x30 s (branch (s.cpu.p.n) d s)

/-- BPL, `0x10` (rule R247). -/
def execBpl (d : Byte) (s : State) : Result :=
  complete 0x10 s (branch (!s.cpu.p.n) d s)

/-- BVC, `0x50` (rule R248). -/
def execBvc (d : Byte) (s : State) : Result :=
  complete 0x50 s (branch (!s.cpu.p.v) d s)

/-- BVS, `0x70` (rule R249). -/
def execBvs (d : Byte) (s : State) : Result :=
  complete 0x70 s (branch (s.cpu.p.v) d s)

/-- CLC, `0x18` (rule R250). -/
def execClc (s : State) : Result :=
  let t := impliedCycles s
  complete 0x18 s (t.setP { t.cpu.p with c := false })

/-- SEC, `0x38` (rule R251). -/
def execSec (s : State) : Result :=
  let t := impliedCycles s
  complete 0x38 s (t.setP { t.cpu.p with c := true })

/-- CLI, `0x58` (rule R252). -/
def execCli (s : State) : Result :=
  let t := impliedCycles s
  complete 0x58 s (t.setP { t.cpu.p with i := false })

/-- SEI, `0x78` (rule R253). -/
def execSei (s : State) : Result :=
  let t := impliedCycles s
  complete 0x78 s (t.setP { t.cpu.p with i := true })

/-- CLD, `0xD8` (rule R254). -/
def execCld (s : State) : Result :=
  let t := impliedCycles s
  complete 0xD8 s (t.setP { t.cpu.p with d := false })

/-- SED, `0xF8` (rule R255). -/
def execSed (s : State) : Result :=
  let t := impliedCycles s
  complete 0xF8 s (t.setP { t.cpu.p with d := true })

/-- JMP `abs`, `0x4C` (rule R256). -/
def execJmpAbs (lo hi : Byte) (s : State) : Result :=
  complete 0x4C s ((fetchCycles 3 s).setPc (word hi lo))

/-- JMP `(abs)`, `0x6C` (rule R257). -/
def execJmpInd (lo hi : Byte) (s : State) : Result :=
  complete 0x6C s (jumpIndirect lo hi s)

/-- JSR `abs`, `0x20` (rule R258). -/
def execJsr (lo hi : Byte) (s : State) : Result :=
  complete 0x20 s ((callCycles (fetchCycles 2 s) |> idleCycle).setPc (word hi lo))

/-- RTS, `0x60` (rule R259). -/
def execRts (s : State) : Result :=
  complete 0x60 s (returnFromCall s)

/-- CLV, `0xB8` (rule R260). -/
def execClv (s : State) : Result :=
  let t := impliedCycles s
  complete 0xB8 s (t.setP { t.cpu.p with v := false })

/-- NOP, `0xEA` (rule R261). -/
def execNop (s : State) : Result :=
  let t := impliedCycles s
  complete 0xEA s (t)

/-- BRK, `0x00` (rule R262). -/
def execBrk (s : State) : Result :=
  complete 0x00 s (takeTrap (fetchCycles 2 s))

/-- RTI, `0x40` (rule R263). -/
def execRti (s : State) : Result :=
  complete 0x40 s (returnFromTrap (impliedCycles s))

end Sys2Proof.Machine
end

