-- ==== Sys2Proof/Machine/LoadStore.lean ====
section
/-!
DEFINITION. The load, store, register transfer and stack instructions (rules R170 to R186).
-/

namespace Sys2Proof.Machine

/-! ### The shared operations: the operand byte and the state after its cycles come in, the state goes out -/

/-- `A <- m; SetNZ(m)` (rules R171, R185). -/
def loadA (r : Byte × State) : State := (r.2.setA r.1).setNZ r.1

/-- `X <- m; SetNZ(m)` (rule R172). -/
def loadX (r : Byte × State) : State := (r.2.setX r.1).setNZ r.1

/-- `Y <- m; SetNZ(m)` (rule R173). -/
def loadY (r : Byte × State) : State := (r.2.setY r.1).setNZ r.1

/-! ### The instructions -/

/-- LDA `(zp,X)`, `0xA1` (rule R171). -/
def execLdaIzX (b1 : Byte) (s : State) : Result :=
  complete 0xA1 s (loadA (readIzX b1 s))

/-- LDA `zp`, `0xA5` (rule R171). -/
def execLdaZp (b1 : Byte) (s : State) : Result :=
  complete 0xA5 s (loadA (readZp b1 s))

/-- LDA immediate, `0xA9` (rule R171). -/
def execLdaImm (b1 : Byte) (s : State) : Result :=
  complete 0xA9 s (loadA (readImm b1 s))

/-- LDA `abs`, `0xAD` (rule R171). -/
def execLdaAbs (lo hi : Byte) (s : State) : Result :=
  complete 0xAD s (loadA (readAbs lo hi s))

/-- LDA `(zp),Y`, `0xB1` (rule R171). -/
def execLdaIzY (b1 : Byte) (s : State) : Result :=
  complete 0xB1 s (loadA (readIzY b1 s))

/-- LDA `zp,X`, `0xB5` (rule R171). -/
def execLdaZpX (b1 : Byte) (s : State) : Result :=
  complete 0xB5 s (loadA (readZpX b1 s))

/-- LDA `abs,Y`, `0xB9` (rule R171). -/
def execLdaAbsY (lo hi : Byte) (s : State) : Result :=
  complete 0xB9 s (loadA (readAbsY lo hi s))

/-- LDA `abs,X`, `0xBD` (rule R171). -/
def execLdaAbsX (lo hi : Byte) (s : State) : Result :=
  complete 0xBD s (loadA (readAbsX lo hi s))

/-- LDX immediate, `0xA2` (rule R172). -/
def execLdxImm (b1 : Byte) (s : State) : Result :=
  complete 0xA2 s (loadX (readImm b1 s))

/-- LDX `zp`, `0xA6` (rule R172). -/
def execLdxZp (b1 : Byte) (s : State) : Result :=
  complete 0xA6 s (loadX (readZp b1 s))

/-- LDX `abs`, `0xAE` (rule R172). -/
def execLdxAbs (lo hi : Byte) (s : State) : Result :=
  complete 0xAE s (loadX (readAbs lo hi s))

/-- LDX `zp,Y`, `0xB6` (rule R172). -/
def execLdxZpY (b1 : Byte) (s : State) : Result :=
  complete 0xB6 s (loadX (readZpY b1 s))

/-- LDX `abs,Y`, `0xBE` (rule R172). -/
def execLdxAbsY (lo hi : Byte) (s : State) : Result :=
  complete 0xBE s (loadX (readAbsY lo hi s))

/-- LDY immediate, `0xA0` (rule R173). -/
def execLdyImm (b1 : Byte) (s : State) : Result :=
  complete 0xA0 s (loadY (readImm b1 s))

/-- LDY `zp`, `0xA4` (rule R173). -/
def execLdyZp (b1 : Byte) (s : State) : Result :=
  complete 0xA4 s (loadY (readZp b1 s))

/-- LDY `abs`, `0xAC` (rule R173). -/
def execLdyAbs (lo hi : Byte) (s : State) : Result :=
  complete 0xAC s (loadY (readAbs lo hi s))

/-- LDY `zp,X`, `0xB4` (rule R173). -/
def execLdyZpX (b1 : Byte) (s : State) : Result :=
  complete 0xB4 s (loadY (readZpX b1 s))

/-- LDY `abs,X`, `0xBC` (rule R173). -/
def execLdyAbsX (lo hi : Byte) (s : State) : Result :=
  complete 0xBC s (loadY (readAbsX lo hi s))

/-- STA `(zp,X)`, `0x81` (rule R174). -/
def execStaIzX (b1 : Byte) (s : State) : Result :=
  complete 0x81 s (storeAt s.cpu.a (addrIzX b1 s))

/-- STA `zp`, `0x85` (rule R174). -/
def execStaZp (b1 : Byte) (s : State) : Result :=
  complete 0x85 s (storeAt s.cpu.a (addrZp b1 s))

/-- STA `abs`, `0x8D` (rule R174). -/
def execStaAbs (lo hi : Byte) (s : State) : Result :=
  complete 0x8D s (storeAt s.cpu.a (addrAbs lo hi s))

/-- STA `(zp),Y`, `0x91` (rule R174). -/
def execStaIzY (b1 : Byte) (s : State) : Result :=
  complete 0x91 s (storeAt s.cpu.a (addrIzY b1 s))

/-- STA `zp,X`, `0x95` (rule R174). -/
def execStaZpX (b1 : Byte) (s : State) : Result :=
  complete 0x95 s (storeAt s.cpu.a (addrZpIndexed b1 s.cpu.x s))

/-- STA `abs,Y`, `0x99` (rule R174). -/
def execStaAbsY (lo hi : Byte) (s : State) : Result :=
  complete 0x99 s (storeAt s.cpu.a (addrAbsY lo hi s))

/-- STA `abs,X`, `0x9D` (rule R174). -/
def execStaAbsX (lo hi : Byte) (s : State) : Result :=
  complete 0x9D s (storeAt s.cpu.a (addrAbsX lo hi s))

/-- STX `zp`, `0x86` (rule R175). -/
def execStxZp (b1 : Byte) (s : State) : Result :=
  complete 0x86 s (storeAt s.cpu.x (addrZp b1 s))

/-- STX `abs`, `0x8E` (rule R175). -/
def execStxAbs (lo hi : Byte) (s : State) : Result :=
  complete 0x8E s (storeAt s.cpu.x (addrAbs lo hi s))

/-- STX `zp,Y`, `0x96` (rule R175). -/
def execStxZpY (b1 : Byte) (s : State) : Result :=
  complete 0x96 s (storeAt s.cpu.x (addrZpIndexed b1 s.cpu.y s))

/-- STY `zp`, `0x84` (rule R176). -/
def execStyZp (b1 : Byte) (s : State) : Result :=
  complete 0x84 s (storeAt s.cpu.y (addrZp b1 s))

/-- STY `abs`, `0x8C` (rule R176). -/
def execStyAbs (lo hi : Byte) (s : State) : Result :=
  complete 0x8C s (storeAt s.cpu.y (addrAbs lo hi s))

/-- STY `zp,X`, `0x94` (rule R176). -/
def execStyZpX (b1 : Byte) (s : State) : Result :=
  complete 0x94 s (storeAt s.cpu.y (addrZpIndexed b1 s.cpu.x s))

/-- TAX, `0xAA` (rule R177). -/
def execTax (s : State) : Result :=
  let t := impliedCycles s
  complete 0xAA s ((t.setX t.cpu.a).setNZ t.cpu.a)

/-- TAY, `0xA8` (rule R178). -/
def execTay (s : State) : Result :=
  let t := impliedCycles s
  complete 0xA8 s ((t.setY t.cpu.a).setNZ t.cpu.a)

/-- TXA, `0x8A` (rule R179). -/
def execTxa (s : State) : Result :=
  let t := impliedCycles s
  complete 0x8A s ((t.setA t.cpu.x).setNZ t.cpu.x)

/-- TYA, `0x98` (rule R180). -/
def execTya (s : State) : Result :=
  let t := impliedCycles s
  complete 0x98 s ((t.setA t.cpu.y).setNZ t.cpu.y)

/-- TSX, `0xBA` (rule R181). -/
def execTsx (s : State) : Result :=
  let t := impliedCycles s
  complete 0xBA s ((t.setX t.cpu.sp).setNZ t.cpu.sp)

/-- TXS, `0x9A` (rule R182). -/
def execTxs (s : State) : Result :=
  let t := impliedCycles s
  complete 0x9A s (t.setSp t.cpu.x)

/-- PHA, `0x48` (rule R183). -/
def execPha (s : State) : Result :=
  complete 0x48 s (push s.cpu.a (impliedCycles s))

/-- PHP, `0x08` (rule R184). -/
def execPhp (s : State) : Result :=
  complete 0x08 s (push (statusByte s.cpu.p) (impliedCycles s))

/-- PLA, `0x68` (rule R185). -/
def execPla (s : State) : Result :=
  complete 0x68 s (loadA (pull (stackIdle (impliedCycles s))))

/-- PLP, `0x28` (rule R186). -/
def execPlp (s : State) : Result :=
  complete 0x28 s (pullFlags (stackIdle (impliedCycles s)))

end Sys2Proof.Machine
end

