-- ==== Sys2Proof/Machine/Undocumented.lean ====
section
/-!
DEFINITION. The 105 undocumented opcodes under the three policies (rules R280 to R285).
-/

namespace Sys2Proof.Machine

/-! ### The policy -/

/-- The cycles of policy `nop`: the opcode and operand fetches, then dummy reads at `PC` until `n` cycles are made
(rule R282). -/
def nopPolicy (length n : Nat) (s : State) : State := idleCycles (n - length) (fetchCycles length s)

/-- An undocumented opcode of a given length and cycle count, with its meaning under `emulate_stable`, `none` where it
has none there (rules R280, R282, R283). -/
def undocumented (op : Byte) (length n : Nat) (stable : State → Option State) (s : State) : Result :=
  match s.par.illegalPolicy with
  | .fault => .next (raise op s)
  | .nop => complete op s (nopPolicy length n s)
  | .emulateStable =>
    match stable s with
    | some t => complete op s t
    | none => .next (raise op s)

/-! ### The shared operations of rule R283 -/

/-- A discarded operand read (rule R283, NOP). -/
def discard (r : Byte × State) : State := r.2

/-- LAX of an operand byte (rule R283). -/
def loadAX (r : Byte × State) : State := ((r.2.setA r.1).setX r.1).setNZ r.1

/-- LAS of an operand byte (rule R283). -/
def loadASX (r : Byte × State) : State :=
  let v := r.1 &&& r.2.cpu.sp
  (((r.2.setA v).setX v).setSp v).setNZ v

/-- The rmw step of DCP: no flag of its own (rule R283). -/
def decrementOnly (v : Byte) (p : Flags) : Alu := { value := v - 1, p := p }

/-- The rmw step of ISC: no flag of its own (rule R283). -/
def incrementOnly (v : Byte) (p : Flags) : Alu := { value := v + 1, p := p }

/-- ANC (rule R283). -/
def ancA (r : Byte × State) : State :=
  let v := r.2.cpu.a &&& r.1
  r.2.setAlu { value := v, p := setNZ v { r.2.cpu.p with c := bit v 7 } }

/-- ALR (rule R283). -/
def alrA (r : Byte × State) : State := r.2.setAlu (shiftRight (r.2.cpu.a &&& r.1) r.2.cpu.p)

/-- ARR, binary (rule R283). -/
def arrA (r : Byte × State) : State :=
  let v := ((r.2.cpu.a &&& r.1) >>> 1) ||| bitAt 7 r.2.cpu.p.c
  r.2.setAlu { value := v, p := setNZ v { r.2.cpu.p with c := bit v 6, v := bit v 6 ^^ bit v 5 } }

/-- SBX (rule R283). -/
def sbxX (r : Byte × State) : State :=
  let t := r.2.cpu.a &&& r.2.cpu.x
  (r.2.setX (t - r.1)).setP (compareFlags t r.1 r.2.cpu.p)

/-! ### The instructions -/

/-- JAM, the twelve opcodes of `jamOpcodes` (rule R280; none under `emulate_stable`, rule R283). -/
def execJam (op : Byte) (s : State) : Result :=
  undocumented op 1 2 (fun _ => none) s

/-- SLO `(zp,X)`, `0x03` (rule R280; its meaning rule R283). -/
def execSloIzX (b1 : Byte) (s : State) : Result :=
  undocumented 0x03 2 8 (fun s => some (oraA (modifyAt shiftLeft (addrIzX b1 s)))) s

/-- NOP `zp`, `0x04`, `0x44`, `0x64` (rule R280; its meaning rule R283). -/
def execNopZp (op b1 : Byte) (s : State) : Result :=
  undocumented op 2 3 (fun s => some (discard (readZp b1 s))) s

/-- SLO `zp`, `0x07` (rule R280; its meaning rule R283). -/
def execSloZp (b1 : Byte) (s : State) : Result :=
  undocumented 0x07 2 5 (fun s => some (oraA (modifyAt shiftLeft (addrZp b1 s)))) s

/-- ANC immediate, `0x0B`, `0x2B` (rule R280; its meaning rule R283). -/
def execAncImm (op b1 : Byte) (s : State) : Result :=
  undocumented op 2 2 (fun s => some (ancA (readImm b1 s))) s

/-- NOP `abs`, `0x0C` (rule R280; its meaning rule R283). -/
def execNopAbs (lo hi : Byte) (s : State) : Result :=
  undocumented 0x0C 3 4 (fun s => some (discard (readAbs lo hi s))) s

/-- SLO `abs`, `0x0F` (rule R280; its meaning rule R283). -/
def execSloAbs (lo hi : Byte) (s : State) : Result :=
  undocumented 0x0F 3 6 (fun s => some (oraA (modifyAt shiftLeft (addrAbs lo hi s)))) s

/-- SLO `(zp),Y`, `0x13` (rule R280; its meaning rule R283). -/
def execSloIzY (b1 : Byte) (s : State) : Result :=
  undocumented 0x13 2 8 (fun s => some (oraA (modifyAt shiftLeft (addrIzY b1 s)))) s

/-- NOP `zp,X`, `0x14`, `0x34`, `0x54`, `0x74`, `0xD4`, `0xF4` (rule R280; its meaning rule R283). -/
def execNopZpX (op b1 : Byte) (s : State) : Result :=
  undocumented op 2 4 (fun s => some (discard (readZpX b1 s))) s

/-- SLO `zp,X`, `0x17` (rule R280; its meaning rule R283). -/
def execSloZpX (b1 : Byte) (s : State) : Result :=
  undocumented 0x17 2 6 (fun s => some (oraA (modifyAt shiftLeft (addrZpIndexed b1 s.cpu.x s)))) s

/-- NOP, `0x1A`, `0x3A`, `0x5A`, `0x7A`, `0xDA`, `0xFA` (rule R280; its meaning rule R283). -/
def execNopImp (op : Byte) (s : State) : Result :=
  undocumented op 1 2 (fun s => some (impliedCycles s)) s

/-- SLO `abs,Y`, `0x1B` (rule R280; its meaning rule R283). -/
def execSloAbsY (lo hi : Byte) (s : State) : Result :=
  undocumented 0x1B 3 7 (fun s => some (oraA (modifyAt shiftLeft (addrAbsY lo hi s)))) s

/-- NOP `abs,X`, `0x1C`, `0x3C`, `0x5C`, `0x7C`, `0xDC`, `0xFC` (rule R280; its meaning rule R283). -/
def execNopAbsX (op lo hi : Byte) (s : State) : Result :=
  undocumented op 3 4 (fun s => some (discard (readAbsX lo hi s))) s

/-- SLO `abs,X`, `0x1F` (rule R280; its meaning rule R283). -/
def execSloAbsX (lo hi : Byte) (s : State) : Result :=
  undocumented 0x1F 3 7 (fun s => some (oraA (modifyAt shiftLeft (addrAbsX lo hi s)))) s

/-- RLA `(zp,X)`, `0x23` (rule R280; its meaning rule R283). -/
def execRlaIzX (b1 : Byte) (s : State) : Result :=
  undocumented 0x23 2 8 (fun s => some (andA (modifyAt rotateLeft (addrIzX b1 s)))) s

/-- RLA `zp`, `0x27` (rule R280; its meaning rule R283). -/
def execRlaZp (b1 : Byte) (s : State) : Result :=
  undocumented 0x27 2 5 (fun s => some (andA (modifyAt rotateLeft (addrZp b1 s)))) s

/-- RLA `abs`, `0x2F` (rule R280; its meaning rule R283). -/
def execRlaAbs (lo hi : Byte) (s : State) : Result :=
  undocumented 0x2F 3 6 (fun s => some (andA (modifyAt rotateLeft (addrAbs lo hi s)))) s

/-- RLA `(zp),Y`, `0x33` (rule R280; its meaning rule R283). -/
def execRlaIzY (b1 : Byte) (s : State) : Result :=
  undocumented 0x33 2 8 (fun s => some (andA (modifyAt rotateLeft (addrIzY b1 s)))) s

/-- RLA `zp,X`, `0x37` (rule R280; its meaning rule R283). -/
def execRlaZpX (b1 : Byte) (s : State) : Result :=
  undocumented 0x37 2 6 (fun s => some (andA (modifyAt rotateLeft (addrZpIndexed b1 s.cpu.x s)))) s

/-- RLA `abs,Y`, `0x3B` (rule R280; its meaning rule R283). -/
def execRlaAbsY (lo hi : Byte) (s : State) : Result :=
  undocumented 0x3B 3 7 (fun s => some (andA (modifyAt rotateLeft (addrAbsY lo hi s)))) s

/-- RLA `abs,X`, `0x3F` (rule R280; its meaning rule R283). -/
def execRlaAbsX (lo hi : Byte) (s : State) : Result :=
  undocumented 0x3F 3 7 (fun s => some (andA (modifyAt rotateLeft (addrAbsX lo hi s)))) s

/-- SRE `(zp,X)`, `0x43` (rule R280; its meaning rule R283). -/
def execSreIzX (b1 : Byte) (s : State) : Result :=
  undocumented 0x43 2 8 (fun s => some (eorA (modifyAt shiftRight (addrIzX b1 s)))) s

/-- SRE `zp`, `0x47` (rule R280; its meaning rule R283). -/
def execSreZp (b1 : Byte) (s : State) : Result :=
  undocumented 0x47 2 5 (fun s => some (eorA (modifyAt shiftRight (addrZp b1 s)))) s

/-- ALR immediate, `0x4B` (rule R280; its meaning rule R283). -/
def execAlr (b1 : Byte) (s : State) : Result :=
  undocumented 0x4B 2 2 (fun s => some (alrA (readImm b1 s))) s

/-- SRE `abs`, `0x4F` (rule R280; its meaning rule R283). -/
def execSreAbs (lo hi : Byte) (s : State) : Result :=
  undocumented 0x4F 3 6 (fun s => some (eorA (modifyAt shiftRight (addrAbs lo hi s)))) s

/-- SRE `(zp),Y`, `0x53` (rule R280; its meaning rule R283). -/
def execSreIzY (b1 : Byte) (s : State) : Result :=
  undocumented 0x53 2 8 (fun s => some (eorA (modifyAt shiftRight (addrIzY b1 s)))) s

/-- SRE `zp,X`, `0x57` (rule R280; its meaning rule R283). -/
def execSreZpX (b1 : Byte) (s : State) : Result :=
  undocumented 0x57 2 6 (fun s => some (eorA (modifyAt shiftRight (addrZpIndexed b1 s.cpu.x s)))) s

/-- SRE `abs,Y`, `0x5B` (rule R280; its meaning rule R283). -/
def execSreAbsY (lo hi : Byte) (s : State) : Result :=
  undocumented 0x5B 3 7 (fun s => some (eorA (modifyAt shiftRight (addrAbsY lo hi s)))) s

/-- SRE `abs,X`, `0x5F` (rule R280; its meaning rule R283). -/
def execSreAbsX (lo hi : Byte) (s : State) : Result :=
  undocumented 0x5F 3 7 (fun s => some (eorA (modifyAt shiftRight (addrAbsX lo hi s)))) s

/-- RRA `(zp,X)`, `0x63` (rule R280; its meaning rule R283). -/
def execRraIzX (b1 : Byte) (s : State) : Result :=
  undocumented 0x63 2 8 (fun s => some (adc (modifyAt rotateRight (addrIzX b1 s)))) s

/-- RRA `zp`, `0x67` (rule R280; its meaning rule R283). -/
def execRraZp (b1 : Byte) (s : State) : Result :=
  undocumented 0x67 2 5 (fun s => some (adc (modifyAt rotateRight (addrZp b1 s)))) s

/-- ARR immediate, `0x6B` (rule R280; its meaning rule R283). -/
def execArr (b1 : Byte) (s : State) : Result :=
  undocumented 0x6B 2 2 (fun s => if inDecimal s.par s.cpu.p then none else some (arrA (readImm b1 s))) s

/-- RRA `abs`, `0x6F` (rule R280; its meaning rule R283). -/
def execRraAbs (lo hi : Byte) (s : State) : Result :=
  undocumented 0x6F 3 6 (fun s => some (adc (modifyAt rotateRight (addrAbs lo hi s)))) s

/-- RRA `(zp),Y`, `0x73` (rule R280; its meaning rule R283). -/
def execRraIzY (b1 : Byte) (s : State) : Result :=
  undocumented 0x73 2 8 (fun s => some (adc (modifyAt rotateRight (addrIzY b1 s)))) s

/-- RRA `zp,X`, `0x77` (rule R280; its meaning rule R283). -/
def execRraZpX (b1 : Byte) (s : State) : Result :=
  undocumented 0x77 2 6 (fun s => some (adc (modifyAt rotateRight (addrZpIndexed b1 s.cpu.x s)))) s

/-- RRA `abs,Y`, `0x7B` (rule R280; its meaning rule R283). -/
def execRraAbsY (lo hi : Byte) (s : State) : Result :=
  undocumented 0x7B 3 7 (fun s => some (adc (modifyAt rotateRight (addrAbsY lo hi s)))) s

/-- RRA `abs,X`, `0x7F` (rule R280; its meaning rule R283). -/
def execRraAbsX (lo hi : Byte) (s : State) : Result :=
  undocumented 0x7F 3 7 (fun s => some (adc (modifyAt rotateRight (addrAbsX lo hi s)))) s

/-- NOP immediate, `0x80`, `0x82`, `0x89`, `0xC2`, `0xE2` (rule R280; its meaning rule R283). -/
def execNopImm (op b1 : Byte) (s : State) : Result :=
  undocumented op 2 2 (fun s => some (discard (readImm b1 s))) s

/-- SAX `(zp,X)`, `0x83` (rule R280; its meaning rule R283). -/
def execSaxIzX (b1 : Byte) (s : State) : Result :=
  undocumented 0x83 2 6 (fun s => some (storeAt (s.cpu.a &&& s.cpu.x) (addrIzX b1 s))) s

/-- SAX `zp`, `0x87` (rule R280; its meaning rule R283). -/
def execSaxZp (b1 : Byte) (s : State) : Result :=
  undocumented 0x87 2 3 (fun s => some (storeAt (s.cpu.a &&& s.cpu.x) (addrZp b1 s))) s

/-- ANE immediate, `0x8B` (rule R280; none under `emulate_stable`, rule R283). -/
def execAne (_ : Byte) (s : State) : Result :=
  undocumented 0x8B 2 2 (fun _ => none) s

/-- SAX `abs`, `0x8F` (rule R280; its meaning rule R283). -/
def execSaxAbs (lo hi : Byte) (s : State) : Result :=
  undocumented 0x8F 3 4 (fun s => some (storeAt (s.cpu.a &&& s.cpu.x) (addrAbs lo hi s))) s

/-- SHA `(zp),Y`, `0x93` (rule R280; none under `emulate_stable`, rule R283). -/
def execShaIzY (_ : Byte) (s : State) : Result :=
  undocumented 0x93 2 6 (fun _ => none) s

/-- SAX `zp,Y`, `0x97` (rule R280; its meaning rule R283). -/
def execSaxZpY (b1 : Byte) (s : State) : Result :=
  undocumented 0x97 2 4 (fun s => some (storeAt (s.cpu.a &&& s.cpu.x) (addrZpIndexed b1 s.cpu.y s))) s

/-- TAS `abs,Y`, `0x9B` (rule R280; none under `emulate_stable`, rule R283). -/
def execTas (_ _ : Byte) (s : State) : Result :=
  undocumented 0x9B 3 5 (fun _ => none) s

/-- SHY `abs,X`, `0x9C` (rule R280; none under `emulate_stable`, rule R283). -/
def execShy (_ _ : Byte) (s : State) : Result :=
  undocumented 0x9C 3 5 (fun _ => none) s

/-- SHX `abs,Y`, `0x9E` (rule R280; none under `emulate_stable`, rule R283). -/
def execShx (_ _ : Byte) (s : State) : Result :=
  undocumented 0x9E 3 5 (fun _ => none) s

/-- SHA `abs,Y`, `0x9F` (rule R280; none under `emulate_stable`, rule R283). -/
def execShaAbsY (_ _ : Byte) (s : State) : Result :=
  undocumented 0x9F 3 5 (fun _ => none) s

/-- LAX `(zp,X)`, `0xA3` (rule R280; its meaning rule R283). -/
def execLaxIzX (b1 : Byte) (s : State) : Result :=
  undocumented 0xA3 2 6 (fun s => some (loadAX (readIzX b1 s))) s

/-- LAX `zp`, `0xA7` (rule R280; its meaning rule R283). -/
def execLaxZp (b1 : Byte) (s : State) : Result :=
  undocumented 0xA7 2 3 (fun s => some (loadAX (readZp b1 s))) s

/-- LXA immediate, `0xAB` (rule R280; none under `emulate_stable`, rule R283). -/
def execLxa (_ : Byte) (s : State) : Result :=
  undocumented 0xAB 2 2 (fun _ => none) s

/-- LAX `abs`, `0xAF` (rule R280; its meaning rule R283). -/
def execLaxAbs (lo hi : Byte) (s : State) : Result :=
  undocumented 0xAF 3 4 (fun s => some (loadAX (readAbs lo hi s))) s

/-- LAX `(zp),Y`, `0xB3` (rule R280; its meaning rule R283). -/
def execLaxIzY (b1 : Byte) (s : State) : Result :=
  undocumented 0xB3 2 5 (fun s => some (loadAX (readIzY b1 s))) s

/-- LAX `zp,Y`, `0xB7` (rule R280; its meaning rule R283). -/
def execLaxZpY (b1 : Byte) (s : State) : Result :=
  undocumented 0xB7 2 4 (fun s => some (loadAX (readZpY b1 s))) s

/-- LAS `abs,Y`, `0xBB` (rule R280; its meaning rule R283). -/
def execLas (lo hi : Byte) (s : State) : Result :=
  undocumented 0xBB 3 4 (fun s => some (loadASX (readAbsY lo hi s))) s

/-- LAX `abs,Y`, `0xBF` (rule R280; its meaning rule R283). -/
def execLaxAbsY (lo hi : Byte) (s : State) : Result :=
  undocumented 0xBF 3 4 (fun s => some (loadAX (readAbsY lo hi s))) s

/-- DCP `(zp,X)`, `0xC3` (rule R280; its meaning rule R283). -/
def execDcpIzX (b1 : Byte) (s : State) : Result :=
  undocumented 0xC3 2 8 (fun s => some (cmpA (modifyAt decrementOnly (addrIzX b1 s)))) s

/-- DCP `zp`, `0xC7` (rule R280; its meaning rule R283). -/
def execDcpZp (b1 : Byte) (s : State) : Result :=
  undocumented 0xC7 2 5 (fun s => some (cmpA (modifyAt decrementOnly (addrZp b1 s)))) s

/-- SBX immediate, `0xCB` (rule R280; its meaning rule R283). -/
def execSbx (b1 : Byte) (s : State) : Result :=
  undocumented 0xCB 2 2 (fun s => some (sbxX (readImm b1 s))) s

/-- DCP `abs`, `0xCF` (rule R280; its meaning rule R283). -/
def execDcpAbs (lo hi : Byte) (s : State) : Result :=
  undocumented 0xCF 3 6 (fun s => some (cmpA (modifyAt decrementOnly (addrAbs lo hi s)))) s

/-- DCP `(zp),Y`, `0xD3` (rule R280; its meaning rule R283). -/
def execDcpIzY (b1 : Byte) (s : State) : Result :=
  undocumented 0xD3 2 8 (fun s => some (cmpA (modifyAt decrementOnly (addrIzY b1 s)))) s

/-- DCP `zp,X`, `0xD7` (rule R280; its meaning rule R283). -/
def execDcpZpX (b1 : Byte) (s : State) : Result :=
  undocumented 0xD7 2 6 (fun s => some (cmpA (modifyAt decrementOnly (addrZpIndexed b1 s.cpu.x s)))) s

/-- DCP `abs,Y`, `0xDB` (rule R280; its meaning rule R283). -/
def execDcpAbsY (lo hi : Byte) (s : State) : Result :=
  undocumented 0xDB 3 7 (fun s => some (cmpA (modifyAt decrementOnly (addrAbsY lo hi s)))) s

/-- DCP `abs,X`, `0xDF` (rule R280; its meaning rule R283). -/
def execDcpAbsX (lo hi : Byte) (s : State) : Result :=
  undocumented 0xDF 3 7 (fun s => some (cmpA (modifyAt decrementOnly (addrAbsX lo hi s)))) s

/-- ISC `(zp,X)`, `0xE3` (rule R280; its meaning rule R283). -/
def execIscIzX (b1 : Byte) (s : State) : Result :=
  undocumented 0xE3 2 8 (fun s => some (sbc (modifyAt incrementOnly (addrIzX b1 s)))) s

/-- ISC `zp`, `0xE7` (rule R280; its meaning rule R283). -/
def execIscZp (b1 : Byte) (s : State) : Result :=
  undocumented 0xE7 2 5 (fun s => some (sbc (modifyAt incrementOnly (addrZp b1 s)))) s

/-- USBC immediate, `0xEB` (rule R280; its meaning rule R283). -/
def execUsbc (b1 : Byte) (s : State) : Result :=
  undocumented 0xEB 2 2 (fun s => some (sbc (readImm b1 s))) s

/-- ISC `abs`, `0xEF` (rule R280; its meaning rule R283). -/
def execIscAbs (lo hi : Byte) (s : State) : Result :=
  undocumented 0xEF 3 6 (fun s => some (sbc (modifyAt incrementOnly (addrAbs lo hi s)))) s

/-- ISC `(zp),Y`, `0xF3` (rule R280; its meaning rule R283). -/
def execIscIzY (b1 : Byte) (s : State) : Result :=
  undocumented 0xF3 2 8 (fun s => some (sbc (modifyAt incrementOnly (addrIzY b1 s)))) s

/-- ISC `zp,X`, `0xF7` (rule R280; its meaning rule R283). -/
def execIscZpX (b1 : Byte) (s : State) : Result :=
  undocumented 0xF7 2 6 (fun s => some (sbc (modifyAt incrementOnly (addrZpIndexed b1 s.cpu.x s)))) s

/-- ISC `abs,Y`, `0xFB` (rule R280; its meaning rule R283). -/
def execIscAbsY (lo hi : Byte) (s : State) : Result :=
  undocumented 0xFB 3 7 (fun s => some (sbc (modifyAt incrementOnly (addrAbsY lo hi s)))) s

/-- ISC `abs,X`, `0xFF` (rule R280; its meaning rule R283). -/
def execIscAbsX (lo hi : Byte) (s : State) : Result :=
  undocumented 0xFF 3 7 (fun s => some (sbc (modifyAt incrementOnly (addrAbsX lo hi s)))) s

end Sys2Proof.Machine
end

