-- ==== Sys2Proof/Machine/Dispatch.lean ====
section
/-!
DEFINITION. One arm per instruction: the whole dispatch.
-/

namespace Sys2Proof.Machine

def exec (i : Instr) (s : State) : Host.Outcome State Fault Refusal :=
  match i with
  | .brk => Sys2Proof.Machine.execBrk s
  | .oraIzX b1 => Sys2Proof.Machine.execOraIzX b1 s
  | .jam op => Sys2Proof.Machine.execJam op s
  | .sloIzX b1 => Sys2Proof.Machine.execSloIzX b1 s
  | .nopZp op b1 => Sys2Proof.Machine.execNopZp op b1 s
  | .oraZp b1 => Sys2Proof.Machine.execOraZp b1 s
  | .aslZp b1 => Sys2Proof.Machine.execAslZp b1 s
  | .sloZp b1 => Sys2Proof.Machine.execSloZp b1 s
  | .php => Sys2Proof.Machine.execPhp s
  | .oraImm b1 => Sys2Proof.Machine.execOraImm b1 s
  | .aslAcc => Sys2Proof.Machine.execAslAcc s
  | .ancImm op b1 => Sys2Proof.Machine.execAncImm op b1 s
  | .nopAbs lo hi => Sys2Proof.Machine.execNopAbs lo hi s
  | .oraAbs lo hi => Sys2Proof.Machine.execOraAbs lo hi s
  | .aslAbs lo hi => Sys2Proof.Machine.execAslAbs lo hi s
  | .sloAbs lo hi => Sys2Proof.Machine.execSloAbs lo hi s
  | .bpl d => Sys2Proof.Machine.execBpl d s
  | .oraIzY b1 => Sys2Proof.Machine.execOraIzY b1 s
  | .sloIzY b1 => Sys2Proof.Machine.execSloIzY b1 s
  | .nopZpX op b1 => Sys2Proof.Machine.execNopZpX op b1 s
  | .oraZpX b1 => Sys2Proof.Machine.execOraZpX b1 s
  | .aslZpX b1 => Sys2Proof.Machine.execAslZpX b1 s
  | .sloZpX b1 => Sys2Proof.Machine.execSloZpX b1 s
  | .clc => Sys2Proof.Machine.execClc s
  | .oraAbsY lo hi => Sys2Proof.Machine.execOraAbsY lo hi s
  | .nopImp op => Sys2Proof.Machine.execNopImp op s
  | .sloAbsY lo hi => Sys2Proof.Machine.execSloAbsY lo hi s
  | .nopAbsX op lo hi => Sys2Proof.Machine.execNopAbsX op lo hi s
  | .oraAbsX lo hi => Sys2Proof.Machine.execOraAbsX lo hi s
  | .aslAbsX lo hi => Sys2Proof.Machine.execAslAbsX lo hi s
  | .sloAbsX lo hi => Sys2Proof.Machine.execSloAbsX lo hi s
  | .jsr lo hi => Sys2Proof.Machine.execJsr lo hi s
  | .andIzX b1 => Sys2Proof.Machine.execAndIzX b1 s
  | .rlaIzX b1 => Sys2Proof.Machine.execRlaIzX b1 s
  | .bitZp b1 => Sys2Proof.Machine.execBitZp b1 s
  | .andZp b1 => Sys2Proof.Machine.execAndZp b1 s
  | .rolZp b1 => Sys2Proof.Machine.execRolZp b1 s
  | .rlaZp b1 => Sys2Proof.Machine.execRlaZp b1 s
  | .plp => Sys2Proof.Machine.execPlp s
  | .andImm b1 => Sys2Proof.Machine.execAndImm b1 s
  | .rolAcc => Sys2Proof.Machine.execRolAcc s
  | .bitAbs lo hi => Sys2Proof.Machine.execBitAbs lo hi s
  | .andAbs lo hi => Sys2Proof.Machine.execAndAbs lo hi s
  | .rolAbs lo hi => Sys2Proof.Machine.execRolAbs lo hi s
  | .rlaAbs lo hi => Sys2Proof.Machine.execRlaAbs lo hi s
  | .bmi d => Sys2Proof.Machine.execBmi d s
  | .andIzY b1 => Sys2Proof.Machine.execAndIzY b1 s
  | .rlaIzY b1 => Sys2Proof.Machine.execRlaIzY b1 s
  | .andZpX b1 => Sys2Proof.Machine.execAndZpX b1 s
  | .rolZpX b1 => Sys2Proof.Machine.execRolZpX b1 s
  | .rlaZpX b1 => Sys2Proof.Machine.execRlaZpX b1 s
  | .sec => Sys2Proof.Machine.execSec s
  | .andAbsY lo hi => Sys2Proof.Machine.execAndAbsY lo hi s
  | .rlaAbsY lo hi => Sys2Proof.Machine.execRlaAbsY lo hi s
  | .andAbsX lo hi => Sys2Proof.Machine.execAndAbsX lo hi s
  | .rolAbsX lo hi => Sys2Proof.Machine.execRolAbsX lo hi s
  | .rlaAbsX lo hi => Sys2Proof.Machine.execRlaAbsX lo hi s
  | .rti => Sys2Proof.Machine.execRti s
  | .eorIzX b1 => Sys2Proof.Machine.execEorIzX b1 s
  | .sreIzX b1 => Sys2Proof.Machine.execSreIzX b1 s
  | .eorZp b1 => Sys2Proof.Machine.execEorZp b1 s
  | .lsrZp b1 => Sys2Proof.Machine.execLsrZp b1 s
  | .sreZp b1 => Sys2Proof.Machine.execSreZp b1 s
  | .pha => Sys2Proof.Machine.execPha s
  | .eorImm b1 => Sys2Proof.Machine.execEorImm b1 s
  | .lsrAcc => Sys2Proof.Machine.execLsrAcc s
  | .alr b1 => Sys2Proof.Machine.execAlr b1 s
  | .jmpAbs lo hi => Sys2Proof.Machine.execJmpAbs lo hi s
  | .eorAbs lo hi => Sys2Proof.Machine.execEorAbs lo hi s
  | .lsrAbs lo hi => Sys2Proof.Machine.execLsrAbs lo hi s
  | .sreAbs lo hi => Sys2Proof.Machine.execSreAbs lo hi s
  | .bvc d => Sys2Proof.Machine.execBvc d s
  | .eorIzY b1 => Sys2Proof.Machine.execEorIzY b1 s
  | .sreIzY b1 => Sys2Proof.Machine.execSreIzY b1 s
  | .eorZpX b1 => Sys2Proof.Machine.execEorZpX b1 s
  | .lsrZpX b1 => Sys2Proof.Machine.execLsrZpX b1 s
  | .sreZpX b1 => Sys2Proof.Machine.execSreZpX b1 s
  | .cli => Sys2Proof.Machine.execCli s
  | .eorAbsY lo hi => Sys2Proof.Machine.execEorAbsY lo hi s
  | .sreAbsY lo hi => Sys2Proof.Machine.execSreAbsY lo hi s
  | .eorAbsX lo hi => Sys2Proof.Machine.execEorAbsX lo hi s
  | .lsrAbsX lo hi => Sys2Proof.Machine.execLsrAbsX lo hi s
  | .sreAbsX lo hi => Sys2Proof.Machine.execSreAbsX lo hi s
  | .rts => Sys2Proof.Machine.execRts s
  | .adcIzX b1 => Sys2Proof.Machine.execAdcIzX b1 s
  | .rraIzX b1 => Sys2Proof.Machine.execRraIzX b1 s
  | .adcZp b1 => Sys2Proof.Machine.execAdcZp b1 s
  | .rorZp b1 => Sys2Proof.Machine.execRorZp b1 s
  | .rraZp b1 => Sys2Proof.Machine.execRraZp b1 s
  | .pla => Sys2Proof.Machine.execPla s
  | .adcImm b1 => Sys2Proof.Machine.execAdcImm b1 s
  | .rorAcc => Sys2Proof.Machine.execRorAcc s
  | .arr b1 => Sys2Proof.Machine.execArr b1 s
  | .jmpInd lo hi => Sys2Proof.Machine.execJmpInd lo hi s
  | .adcAbs lo hi => Sys2Proof.Machine.execAdcAbs lo hi s
  | .rorAbs lo hi => Sys2Proof.Machine.execRorAbs lo hi s
  | .rraAbs lo hi => Sys2Proof.Machine.execRraAbs lo hi s
  | .bvs d => Sys2Proof.Machine.execBvs d s
  | .adcIzY b1 => Sys2Proof.Machine.execAdcIzY b1 s
  | .rraIzY b1 => Sys2Proof.Machine.execRraIzY b1 s
  | .adcZpX b1 => Sys2Proof.Machine.execAdcZpX b1 s
  | .rorZpX b1 => Sys2Proof.Machine.execRorZpX b1 s
  | .rraZpX b1 => Sys2Proof.Machine.execRraZpX b1 s
  | .sei => Sys2Proof.Machine.execSei s
  | .adcAbsY lo hi => Sys2Proof.Machine.execAdcAbsY lo hi s
  | .rraAbsY lo hi => Sys2Proof.Machine.execRraAbsY lo hi s
  | .adcAbsX lo hi => Sys2Proof.Machine.execAdcAbsX lo hi s
  | .rorAbsX lo hi => Sys2Proof.Machine.execRorAbsX lo hi s
  | .rraAbsX lo hi => Sys2Proof.Machine.execRraAbsX lo hi s
  | .nopImm op b1 => Sys2Proof.Machine.execNopImm op b1 s
  | .staIzX b1 => Sys2Proof.Machine.execStaIzX b1 s
  | .saxIzX b1 => Sys2Proof.Machine.execSaxIzX b1 s
  | .styZp b1 => Sys2Proof.Machine.execStyZp b1 s
  | .staZp b1 => Sys2Proof.Machine.execStaZp b1 s
  | .stxZp b1 => Sys2Proof.Machine.execStxZp b1 s
  | .saxZp b1 => Sys2Proof.Machine.execSaxZp b1 s
  | .dey => Sys2Proof.Machine.execDey s
  | .txa => Sys2Proof.Machine.execTxa s
  | .ane b1 => Sys2Proof.Machine.execAne b1 s
  | .styAbs lo hi => Sys2Proof.Machine.execStyAbs lo hi s
  | .staAbs lo hi => Sys2Proof.Machine.execStaAbs lo hi s
  | .stxAbs lo hi => Sys2Proof.Machine.execStxAbs lo hi s
  | .saxAbs lo hi => Sys2Proof.Machine.execSaxAbs lo hi s
  | .bcc d => Sys2Proof.Machine.execBcc d s
  | .staIzY b1 => Sys2Proof.Machine.execStaIzY b1 s
  | .shaIzY b1 => Sys2Proof.Machine.execShaIzY b1 s
  | .styZpX b1 => Sys2Proof.Machine.execStyZpX b1 s
  | .staZpX b1 => Sys2Proof.Machine.execStaZpX b1 s
  | .stxZpY b1 => Sys2Proof.Machine.execStxZpY b1 s
  | .saxZpY b1 => Sys2Proof.Machine.execSaxZpY b1 s
  | .tya => Sys2Proof.Machine.execTya s
  | .staAbsY lo hi => Sys2Proof.Machine.execStaAbsY lo hi s
  | .txs => Sys2Proof.Machine.execTxs s
  | .tas lo hi => Sys2Proof.Machine.execTas lo hi s
  | .shy lo hi => Sys2Proof.Machine.execShy lo hi s
  | .staAbsX lo hi => Sys2Proof.Machine.execStaAbsX lo hi s
  | .shx lo hi => Sys2Proof.Machine.execShx lo hi s
  | .shaAbsY lo hi => Sys2Proof.Machine.execShaAbsY lo hi s
  | .ldyImm b1 => Sys2Proof.Machine.execLdyImm b1 s
  | .ldaIzX b1 => Sys2Proof.Machine.execLdaIzX b1 s
  | .ldxImm b1 => Sys2Proof.Machine.execLdxImm b1 s
  | .laxIzX b1 => Sys2Proof.Machine.execLaxIzX b1 s
  | .ldyZp b1 => Sys2Proof.Machine.execLdyZp b1 s
  | .ldaZp b1 => Sys2Proof.Machine.execLdaZp b1 s
  | .ldxZp b1 => Sys2Proof.Machine.execLdxZp b1 s
  | .laxZp b1 => Sys2Proof.Machine.execLaxZp b1 s
  | .tay => Sys2Proof.Machine.execTay s
  | .ldaImm b1 => Sys2Proof.Machine.execLdaImm b1 s
  | .tax => Sys2Proof.Machine.execTax s
  | .lxa b1 => Sys2Proof.Machine.execLxa b1 s
  | .ldyAbs lo hi => Sys2Proof.Machine.execLdyAbs lo hi s
  | .ldaAbs lo hi => Sys2Proof.Machine.execLdaAbs lo hi s
  | .ldxAbs lo hi => Sys2Proof.Machine.execLdxAbs lo hi s
  | .laxAbs lo hi => Sys2Proof.Machine.execLaxAbs lo hi s
  | .bcs d => Sys2Proof.Machine.execBcs d s
  | .ldaIzY b1 => Sys2Proof.Machine.execLdaIzY b1 s
  | .laxIzY b1 => Sys2Proof.Machine.execLaxIzY b1 s
  | .ldyZpX b1 => Sys2Proof.Machine.execLdyZpX b1 s
  | .ldaZpX b1 => Sys2Proof.Machine.execLdaZpX b1 s
  | .ldxZpY b1 => Sys2Proof.Machine.execLdxZpY b1 s
  | .laxZpY b1 => Sys2Proof.Machine.execLaxZpY b1 s
  | .clv => Sys2Proof.Machine.execClv s
  | .ldaAbsY lo hi => Sys2Proof.Machine.execLdaAbsY lo hi s
  | .tsx => Sys2Proof.Machine.execTsx s
  | .las lo hi => Sys2Proof.Machine.execLas lo hi s
  | .ldyAbsX lo hi => Sys2Proof.Machine.execLdyAbsX lo hi s
  | .ldaAbsX lo hi => Sys2Proof.Machine.execLdaAbsX lo hi s
  | .ldxAbsY lo hi => Sys2Proof.Machine.execLdxAbsY lo hi s
  | .laxAbsY lo hi => Sys2Proof.Machine.execLaxAbsY lo hi s
  | .cpyImm b1 => Sys2Proof.Machine.execCpyImm b1 s
  | .cmpIzX b1 => Sys2Proof.Machine.execCmpIzX b1 s
  | .dcpIzX b1 => Sys2Proof.Machine.execDcpIzX b1 s
  | .cpyZp b1 => Sys2Proof.Machine.execCpyZp b1 s
  | .cmpZp b1 => Sys2Proof.Machine.execCmpZp b1 s
  | .decZp b1 => Sys2Proof.Machine.execDecZp b1 s
  | .dcpZp b1 => Sys2Proof.Machine.execDcpZp b1 s
  | .iny => Sys2Proof.Machine.execIny s
  | .cmpImm b1 => Sys2Proof.Machine.execCmpImm b1 s
  | .dex => Sys2Proof.Machine.execDex s
  | .sbx b1 => Sys2Proof.Machine.execSbx b1 s
  | .cpyAbs lo hi => Sys2Proof.Machine.execCpyAbs lo hi s
  | .cmpAbs lo hi => Sys2Proof.Machine.execCmpAbs lo hi s
  | .decAbs lo hi => Sys2Proof.Machine.execDecAbs lo hi s
  | .dcpAbs lo hi => Sys2Proof.Machine.execDcpAbs lo hi s
  | .bne d => Sys2Proof.Machine.execBne d s
  | .cmpIzY b1 => Sys2Proof.Machine.execCmpIzY b1 s
  | .dcpIzY b1 => Sys2Proof.Machine.execDcpIzY b1 s
  | .cmpZpX b1 => Sys2Proof.Machine.execCmpZpX b1 s
  | .decZpX b1 => Sys2Proof.Machine.execDecZpX b1 s
  | .dcpZpX b1 => Sys2Proof.Machine.execDcpZpX b1 s
  | .cld => Sys2Proof.Machine.execCld s
  | .cmpAbsY lo hi => Sys2Proof.Machine.execCmpAbsY lo hi s
  | .dcpAbsY lo hi => Sys2Proof.Machine.execDcpAbsY lo hi s
  | .cmpAbsX lo hi => Sys2Proof.Machine.execCmpAbsX lo hi s
  | .decAbsX lo hi => Sys2Proof.Machine.execDecAbsX lo hi s
  | .dcpAbsX lo hi => Sys2Proof.Machine.execDcpAbsX lo hi s
  | .cpxImm b1 => Sys2Proof.Machine.execCpxImm b1 s
  | .sbcIzX b1 => Sys2Proof.Machine.execSbcIzX b1 s
  | .iscIzX b1 => Sys2Proof.Machine.execIscIzX b1 s
  | .cpxZp b1 => Sys2Proof.Machine.execCpxZp b1 s
  | .sbcZp b1 => Sys2Proof.Machine.execSbcZp b1 s
  | .incZp b1 => Sys2Proof.Machine.execIncZp b1 s
  | .iscZp b1 => Sys2Proof.Machine.execIscZp b1 s
  | .inx => Sys2Proof.Machine.execInx s
  | .sbcImm b1 => Sys2Proof.Machine.execSbcImm b1 s
  | .nop => Sys2Proof.Machine.execNop s
  | .usbc b1 => Sys2Proof.Machine.execUsbc b1 s
  | .cpxAbs lo hi => Sys2Proof.Machine.execCpxAbs lo hi s
  | .sbcAbs lo hi => Sys2Proof.Machine.execSbcAbs lo hi s
  | .incAbs lo hi => Sys2Proof.Machine.execIncAbs lo hi s
  | .iscAbs lo hi => Sys2Proof.Machine.execIscAbs lo hi s
  | .beq d => Sys2Proof.Machine.execBeq d s
  | .sbcIzY b1 => Sys2Proof.Machine.execSbcIzY b1 s
  | .iscIzY b1 => Sys2Proof.Machine.execIscIzY b1 s
  | .sbcZpX b1 => Sys2Proof.Machine.execSbcZpX b1 s
  | .incZpX b1 => Sys2Proof.Machine.execIncZpX b1 s
  | .iscZpX b1 => Sys2Proof.Machine.execIscZpX b1 s
  | .sed => Sys2Proof.Machine.execSed s
  | .sbcAbsY lo hi => Sys2Proof.Machine.execSbcAbsY lo hi s
  | .iscAbsY lo hi => Sys2Proof.Machine.execIscAbsY lo hi s
  | .sbcAbsX lo hi => Sys2Proof.Machine.execSbcAbsX lo hi s
  | .incAbsX lo hi => Sys2Proof.Machine.execIncAbsX lo hi s
  | .iscAbsX lo hi => Sys2Proof.Machine.execIscAbsX lo hi s

end Sys2Proof.Machine
end

