-- ==== Sys2Proof/Decode.lean ====
section
/-!
DEFINITION. The decoder and the encoder (rules R140 to R146, R281, R285).  The opcode byte alone decides the
instruction, its mode and its length; every byte value decodes, and the one reason for the decoder to reject is
that the bytes end before the instruction does.  `opcodeMap` is table E-2 with the cells of table U-1 filled in,
sixteen rows of sixteen, row `b0[7:4]`, column `b0[3:0]`.
-/

namespace Sys2Proof

/-- Why the decoder rejects a list of bytes. -/
inductive DecodeError where
  /-- There is no opcode byte. -/
  | noOpcode
  /-- The bytes end before the last operand byte of the instruction. -/
  | truncated
  deriving DecidableEq, Repr

/-- A cell of the opcode map: the addressing mode and the instruction made from the operand bytes. -/
structure OpcodeCell where
  mode : Mode
  build : Byte → Byte → Instr

/-- The length of an instruction in bytes, by its mode (rule R141 table E-1). -/
def modeLength : Mode → Nat
  | .imp | .acc => 1
  | .imm | .zp | .zpx | .zpy | .izx | .izy | .rel => 2
  | .abs | .abx | .aby | .ind => 3

/-- Row `0` of the opcode map: opcodes `0x00` to `0x0F`. -/
def opcodeRow0 : List OpcodeCell :=
  [ ⟨.imp, fun _ _ => .brk⟩,
    ⟨.izx, fun b1 _ => .oraIzX b1⟩,
    ⟨.imp, fun _ _ => .jam 0x02⟩,
    ⟨.izx, fun b1 _ => .sloIzX b1⟩,
    ⟨.zp, fun b1 _ => .nopZp 0x04 b1⟩,
    ⟨.zp, fun b1 _ => .oraZp b1⟩,
    ⟨.zp, fun b1 _ => .aslZp b1⟩,
    ⟨.zp, fun b1 _ => .sloZp b1⟩,
    ⟨.imp, fun _ _ => .php⟩,
    ⟨.imm, fun b1 _ => .oraImm b1⟩,
    ⟨.acc, fun _ _ => .aslAcc⟩,
    ⟨.imm, fun b1 _ => .ancImm 0x0B b1⟩,
    ⟨.abs, fun lo hi => .nopAbs lo hi⟩,
    ⟨.abs, fun lo hi => .oraAbs lo hi⟩,
    ⟨.abs, fun lo hi => .aslAbs lo hi⟩,
    ⟨.abs, fun lo hi => .sloAbs lo hi⟩ ]

/-- Row `1` of the opcode map: opcodes `0x10` to `0x1F`. -/
def opcodeRow1 : List OpcodeCell :=
  [ ⟨.rel, fun b1 _ => .bpl b1⟩,
    ⟨.izy, fun b1 _ => .oraIzY b1⟩,
    ⟨.imp, fun _ _ => .jam 0x12⟩,
    ⟨.izy, fun b1 _ => .sloIzY b1⟩,
    ⟨.zpx, fun b1 _ => .nopZpX 0x14 b1⟩,
    ⟨.zpx, fun b1 _ => .oraZpX b1⟩,
    ⟨.zpx, fun b1 _ => .aslZpX b1⟩,
    ⟨.zpx, fun b1 _ => .sloZpX b1⟩,
    ⟨.imp, fun _ _ => .clc⟩,
    ⟨.aby, fun lo hi => .oraAbsY lo hi⟩,
    ⟨.imp, fun _ _ => .nopImp 0x1A⟩,
    ⟨.aby, fun lo hi => .sloAbsY lo hi⟩,
    ⟨.abx, fun lo hi => .nopAbsX 0x1C lo hi⟩,
    ⟨.abx, fun lo hi => .oraAbsX lo hi⟩,
    ⟨.abx, fun lo hi => .aslAbsX lo hi⟩,
    ⟨.abx, fun lo hi => .sloAbsX lo hi⟩ ]

/-- Row `2` of the opcode map: opcodes `0x20` to `0x2F`. -/
def opcodeRow2 : List OpcodeCell :=
  [ ⟨.abs, fun lo hi => .jsr lo hi⟩,
    ⟨.izx, fun b1 _ => .andIzX b1⟩,
    ⟨.imp, fun _ _ => .jam 0x22⟩,
    ⟨.izx, fun b1 _ => .rlaIzX b1⟩,
    ⟨.zp, fun b1 _ => .bitZp b1⟩,
    ⟨.zp, fun b1 _ => .andZp b1⟩,
    ⟨.zp, fun b1 _ => .rolZp b1⟩,
    ⟨.zp, fun b1 _ => .rlaZp b1⟩,
    ⟨.imp, fun _ _ => .plp⟩,
    ⟨.imm, fun b1 _ => .andImm b1⟩,
    ⟨.acc, fun _ _ => .rolAcc⟩,
    ⟨.imm, fun b1 _ => .ancImm 0x2B b1⟩,
    ⟨.abs, fun lo hi => .bitAbs lo hi⟩,
    ⟨.abs, fun lo hi => .andAbs lo hi⟩,
    ⟨.abs, fun lo hi => .rolAbs lo hi⟩,
    ⟨.abs, fun lo hi => .rlaAbs lo hi⟩ ]

/-- Row `3` of the opcode map: opcodes `0x30` to `0x3F`. -/
def opcodeRow3 : List OpcodeCell :=
  [ ⟨.rel, fun b1 _ => .bmi b1⟩,
    ⟨.izy, fun b1 _ => .andIzY b1⟩,
    ⟨.imp, fun _ _ => .jam 0x32⟩,
    ⟨.izy, fun b1 _ => .rlaIzY b1⟩,
    ⟨.zpx, fun b1 _ => .nopZpX 0x34 b1⟩,
    ⟨.zpx, fun b1 _ => .andZpX b1⟩,
    ⟨.zpx, fun b1 _ => .rolZpX b1⟩,
    ⟨.zpx, fun b1 _ => .rlaZpX b1⟩,
    ⟨.imp, fun _ _ => .sec⟩,
    ⟨.aby, fun lo hi => .andAbsY lo hi⟩,
    ⟨.imp, fun _ _ => .nopImp 0x3A⟩,
    ⟨.aby, fun lo hi => .rlaAbsY lo hi⟩,
    ⟨.abx, fun lo hi => .nopAbsX 0x3C lo hi⟩,
    ⟨.abx, fun lo hi => .andAbsX lo hi⟩,
    ⟨.abx, fun lo hi => .rolAbsX lo hi⟩,
    ⟨.abx, fun lo hi => .rlaAbsX lo hi⟩ ]

/-- Row `4` of the opcode map: opcodes `0x40` to `0x4F`. -/
def opcodeRow4 : List OpcodeCell :=
  [ ⟨.imp, fun _ _ => .rti⟩,
    ⟨.izx, fun b1 _ => .eorIzX b1⟩,
    ⟨.imp, fun _ _ => .jam 0x42⟩,
    ⟨.izx, fun b1 _ => .sreIzX b1⟩,
    ⟨.zp, fun b1 _ => .nopZp 0x44 b1⟩,
    ⟨.zp, fun b1 _ => .eorZp b1⟩,
    ⟨.zp, fun b1 _ => .lsrZp b1⟩,
    ⟨.zp, fun b1 _ => .sreZp b1⟩,
    ⟨.imp, fun _ _ => .pha⟩,
    ⟨.imm, fun b1 _ => .eorImm b1⟩,
    ⟨.acc, fun _ _ => .lsrAcc⟩,
    ⟨.imm, fun b1 _ => .alr b1⟩,
    ⟨.abs, fun lo hi => .jmpAbs lo hi⟩,
    ⟨.abs, fun lo hi => .eorAbs lo hi⟩,
    ⟨.abs, fun lo hi => .lsrAbs lo hi⟩,
    ⟨.abs, fun lo hi => .sreAbs lo hi⟩ ]

/-- Row `5` of the opcode map: opcodes `0x50` to `0x5F`. -/
def opcodeRow5 : List OpcodeCell :=
  [ ⟨.rel, fun b1 _ => .bvc b1⟩,
    ⟨.izy, fun b1 _ => .eorIzY b1⟩,
    ⟨.imp, fun _ _ => .jam 0x52⟩,
    ⟨.izy, fun b1 _ => .sreIzY b1⟩,
    ⟨.zpx, fun b1 _ => .nopZpX 0x54 b1⟩,
    ⟨.zpx, fun b1 _ => .eorZpX b1⟩,
    ⟨.zpx, fun b1 _ => .lsrZpX b1⟩,
    ⟨.zpx, fun b1 _ => .sreZpX b1⟩,
    ⟨.imp, fun _ _ => .cli⟩,
    ⟨.aby, fun lo hi => .eorAbsY lo hi⟩,
    ⟨.imp, fun _ _ => .nopImp 0x5A⟩,
    ⟨.aby, fun lo hi => .sreAbsY lo hi⟩,
    ⟨.abx, fun lo hi => .nopAbsX 0x5C lo hi⟩,
    ⟨.abx, fun lo hi => .eorAbsX lo hi⟩,
    ⟨.abx, fun lo hi => .lsrAbsX lo hi⟩,
    ⟨.abx, fun lo hi => .sreAbsX lo hi⟩ ]

/-- Row `6` of the opcode map: opcodes `0x60` to `0x6F`. -/
def opcodeRow6 : List OpcodeCell :=
  [ ⟨.imp, fun _ _ => .rts⟩,
    ⟨.izx, fun b1 _ => .adcIzX b1⟩,
    ⟨.imp, fun _ _ => .jam 0x62⟩,
    ⟨.izx, fun b1 _ => .rraIzX b1⟩,
    ⟨.zp, fun b1 _ => .nopZp 0x64 b1⟩,
    ⟨.zp, fun b1 _ => .adcZp b1⟩,
    ⟨.zp, fun b1 _ => .rorZp b1⟩,
    ⟨.zp, fun b1 _ => .rraZp b1⟩,
    ⟨.imp, fun _ _ => .pla⟩,
    ⟨.imm, fun b1 _ => .adcImm b1⟩,
    ⟨.acc, fun _ _ => .rorAcc⟩,
    ⟨.imm, fun b1 _ => .arr b1⟩,
    ⟨.ind, fun lo hi => .jmpInd lo hi⟩,
    ⟨.abs, fun lo hi => .adcAbs lo hi⟩,
    ⟨.abs, fun lo hi => .rorAbs lo hi⟩,
    ⟨.abs, fun lo hi => .rraAbs lo hi⟩ ]

/-- Row `7` of the opcode map: opcodes `0x70` to `0x7F`. -/
def opcodeRow7 : List OpcodeCell :=
  [ ⟨.rel, fun b1 _ => .bvs b1⟩,
    ⟨.izy, fun b1 _ => .adcIzY b1⟩,
    ⟨.imp, fun _ _ => .jam 0x72⟩,
    ⟨.izy, fun b1 _ => .rraIzY b1⟩,
    ⟨.zpx, fun b1 _ => .nopZpX 0x74 b1⟩,
    ⟨.zpx, fun b1 _ => .adcZpX b1⟩,
    ⟨.zpx, fun b1 _ => .rorZpX b1⟩,
    ⟨.zpx, fun b1 _ => .rraZpX b1⟩,
    ⟨.imp, fun _ _ => .sei⟩,
    ⟨.aby, fun lo hi => .adcAbsY lo hi⟩,
    ⟨.imp, fun _ _ => .nopImp 0x7A⟩,
    ⟨.aby, fun lo hi => .rraAbsY lo hi⟩,
    ⟨.abx, fun lo hi => .nopAbsX 0x7C lo hi⟩,
    ⟨.abx, fun lo hi => .adcAbsX lo hi⟩,
    ⟨.abx, fun lo hi => .rorAbsX lo hi⟩,
    ⟨.abx, fun lo hi => .rraAbsX lo hi⟩ ]

/-- Row `8` of the opcode map: opcodes `0x80` to `0x8F`. -/
def opcodeRow8 : List OpcodeCell :=
  [ ⟨.imm, fun b1 _ => .nopImm 0x80 b1⟩,
    ⟨.izx, fun b1 _ => .staIzX b1⟩,
    ⟨.imm, fun b1 _ => .nopImm 0x82 b1⟩,
    ⟨.izx, fun b1 _ => .saxIzX b1⟩,
    ⟨.zp, fun b1 _ => .styZp b1⟩,
    ⟨.zp, fun b1 _ => .staZp b1⟩,
    ⟨.zp, fun b1 _ => .stxZp b1⟩,
    ⟨.zp, fun b1 _ => .saxZp b1⟩,
    ⟨.imp, fun _ _ => .dey⟩,
    ⟨.imm, fun b1 _ => .nopImm 0x89 b1⟩,
    ⟨.imp, fun _ _ => .txa⟩,
    ⟨.imm, fun b1 _ => .ane b1⟩,
    ⟨.abs, fun lo hi => .styAbs lo hi⟩,
    ⟨.abs, fun lo hi => .staAbs lo hi⟩,
    ⟨.abs, fun lo hi => .stxAbs lo hi⟩,
    ⟨.abs, fun lo hi => .saxAbs lo hi⟩ ]

/-- Row `9` of the opcode map: opcodes `0x90` to `0x9F`. -/
def opcodeRow9 : List OpcodeCell :=
  [ ⟨.rel, fun b1 _ => .bcc b1⟩,
    ⟨.izy, fun b1 _ => .staIzY b1⟩,
    ⟨.imp, fun _ _ => .jam 0x92⟩,
    ⟨.izy, fun b1 _ => .shaIzY b1⟩,
    ⟨.zpx, fun b1 _ => .styZpX b1⟩,
    ⟨.zpx, fun b1 _ => .staZpX b1⟩,
    ⟨.zpy, fun b1 _ => .stxZpY b1⟩,
    ⟨.zpy, fun b1 _ => .saxZpY b1⟩,
    ⟨.imp, fun _ _ => .tya⟩,
    ⟨.aby, fun lo hi => .staAbsY lo hi⟩,
    ⟨.imp, fun _ _ => .txs⟩,
    ⟨.aby, fun lo hi => .tas lo hi⟩,
    ⟨.abx, fun lo hi => .shy lo hi⟩,
    ⟨.abx, fun lo hi => .staAbsX lo hi⟩,
    ⟨.aby, fun lo hi => .shx lo hi⟩,
    ⟨.aby, fun lo hi => .shaAbsY lo hi⟩ ]

/-- Row `A` of the opcode map: opcodes `0xA0` to `0xAF`. -/
def opcodeRowA : List OpcodeCell :=
  [ ⟨.imm, fun b1 _ => .ldyImm b1⟩,
    ⟨.izx, fun b1 _ => .ldaIzX b1⟩,
    ⟨.imm, fun b1 _ => .ldxImm b1⟩,
    ⟨.izx, fun b1 _ => .laxIzX b1⟩,
    ⟨.zp, fun b1 _ => .ldyZp b1⟩,
    ⟨.zp, fun b1 _ => .ldaZp b1⟩,
    ⟨.zp, fun b1 _ => .ldxZp b1⟩,
    ⟨.zp, fun b1 _ => .laxZp b1⟩,
    ⟨.imp, fun _ _ => .tay⟩,
    ⟨.imm, fun b1 _ => .ldaImm b1⟩,
    ⟨.imp, fun _ _ => .tax⟩,
    ⟨.imm, fun b1 _ => .lxa b1⟩,
    ⟨.abs, fun lo hi => .ldyAbs lo hi⟩,
    ⟨.abs, fun lo hi => .ldaAbs lo hi⟩,
    ⟨.abs, fun lo hi => .ldxAbs lo hi⟩,
    ⟨.abs, fun lo hi => .laxAbs lo hi⟩ ]

/-- Row `B` of the opcode map: opcodes `0xB0` to `0xBF`. -/
def opcodeRowB : List OpcodeCell :=
  [ ⟨.rel, fun b1 _ => .bcs b1⟩,
    ⟨.izy, fun b1 _ => .ldaIzY b1⟩,
    ⟨.imp, fun _ _ => .jam 0xB2⟩,
    ⟨.izy, fun b1 _ => .laxIzY b1⟩,
    ⟨.zpx, fun b1 _ => .ldyZpX b1⟩,
    ⟨.zpx, fun b1 _ => .ldaZpX b1⟩,
    ⟨.zpy, fun b1 _ => .ldxZpY b1⟩,
    ⟨.zpy, fun b1 _ => .laxZpY b1⟩,
    ⟨.imp, fun _ _ => .clv⟩,
    ⟨.aby, fun lo hi => .ldaAbsY lo hi⟩,
    ⟨.imp, fun _ _ => .tsx⟩,
    ⟨.aby, fun lo hi => .las lo hi⟩,
    ⟨.abx, fun lo hi => .ldyAbsX lo hi⟩,
    ⟨.abx, fun lo hi => .ldaAbsX lo hi⟩,
    ⟨.aby, fun lo hi => .ldxAbsY lo hi⟩,
    ⟨.aby, fun lo hi => .laxAbsY lo hi⟩ ]

/-- Row `C` of the opcode map: opcodes `0xC0` to `0xCF`. -/
def opcodeRowC : List OpcodeCell :=
  [ ⟨.imm, fun b1 _ => .cpyImm b1⟩,
    ⟨.izx, fun b1 _ => .cmpIzX b1⟩,
    ⟨.imm, fun b1 _ => .nopImm 0xC2 b1⟩,
    ⟨.izx, fun b1 _ => .dcpIzX b1⟩,
    ⟨.zp, fun b1 _ => .cpyZp b1⟩,
    ⟨.zp, fun b1 _ => .cmpZp b1⟩,
    ⟨.zp, fun b1 _ => .decZp b1⟩,
    ⟨.zp, fun b1 _ => .dcpZp b1⟩,
    ⟨.imp, fun _ _ => .iny⟩,
    ⟨.imm, fun b1 _ => .cmpImm b1⟩,
    ⟨.imp, fun _ _ => .dex⟩,
    ⟨.imm, fun b1 _ => .sbx b1⟩,
    ⟨.abs, fun lo hi => .cpyAbs lo hi⟩,
    ⟨.abs, fun lo hi => .cmpAbs lo hi⟩,
    ⟨.abs, fun lo hi => .decAbs lo hi⟩,
    ⟨.abs, fun lo hi => .dcpAbs lo hi⟩ ]

/-- Row `D` of the opcode map: opcodes `0xD0` to `0xDF`. -/
def opcodeRowD : List OpcodeCell :=
  [ ⟨.rel, fun b1 _ => .bne b1⟩,
    ⟨.izy, fun b1 _ => .cmpIzY b1⟩,
    ⟨.imp, fun _ _ => .jam 0xD2⟩,
    ⟨.izy, fun b1 _ => .dcpIzY b1⟩,
    ⟨.zpx, fun b1 _ => .nopZpX 0xD4 b1⟩,
    ⟨.zpx, fun b1 _ => .cmpZpX b1⟩,
    ⟨.zpx, fun b1 _ => .decZpX b1⟩,
    ⟨.zpx, fun b1 _ => .dcpZpX b1⟩,
    ⟨.imp, fun _ _ => .cld⟩,
    ⟨.aby, fun lo hi => .cmpAbsY lo hi⟩,
    ⟨.imp, fun _ _ => .nopImp 0xDA⟩,
    ⟨.aby, fun lo hi => .dcpAbsY lo hi⟩,
    ⟨.abx, fun lo hi => .nopAbsX 0xDC lo hi⟩,
    ⟨.abx, fun lo hi => .cmpAbsX lo hi⟩,
    ⟨.abx, fun lo hi => .decAbsX lo hi⟩,
    ⟨.abx, fun lo hi => .dcpAbsX lo hi⟩ ]

/-- Row `E` of the opcode map: opcodes `0xE0` to `0xEF`. -/
def opcodeRowE : List OpcodeCell :=
  [ ⟨.imm, fun b1 _ => .cpxImm b1⟩,
    ⟨.izx, fun b1 _ => .sbcIzX b1⟩,
    ⟨.imm, fun b1 _ => .nopImm 0xE2 b1⟩,
    ⟨.izx, fun b1 _ => .iscIzX b1⟩,
    ⟨.zp, fun b1 _ => .cpxZp b1⟩,
    ⟨.zp, fun b1 _ => .sbcZp b1⟩,
    ⟨.zp, fun b1 _ => .incZp b1⟩,
    ⟨.zp, fun b1 _ => .iscZp b1⟩,
    ⟨.imp, fun _ _ => .inx⟩,
    ⟨.imm, fun b1 _ => .sbcImm b1⟩,
    ⟨.imp, fun _ _ => .nop⟩,
    ⟨.imm, fun b1 _ => .usbc b1⟩,
    ⟨.abs, fun lo hi => .cpxAbs lo hi⟩,
    ⟨.abs, fun lo hi => .sbcAbs lo hi⟩,
    ⟨.abs, fun lo hi => .incAbs lo hi⟩,
    ⟨.abs, fun lo hi => .iscAbs lo hi⟩ ]

/-- Row `F` of the opcode map: opcodes `0xF0` to `0xFF`. -/
def opcodeRowF : List OpcodeCell :=
  [ ⟨.rel, fun b1 _ => .beq b1⟩,
    ⟨.izy, fun b1 _ => .sbcIzY b1⟩,
    ⟨.imp, fun _ _ => .jam 0xF2⟩,
    ⟨.izy, fun b1 _ => .iscIzY b1⟩,
    ⟨.zpx, fun b1 _ => .nopZpX 0xF4 b1⟩,
    ⟨.zpx, fun b1 _ => .sbcZpX b1⟩,
    ⟨.zpx, fun b1 _ => .incZpX b1⟩,
    ⟨.zpx, fun b1 _ => .iscZpX b1⟩,
    ⟨.imp, fun _ _ => .sed⟩,
    ⟨.aby, fun lo hi => .sbcAbsY lo hi⟩,
    ⟨.imp, fun _ _ => .nopImp 0xFA⟩,
    ⟨.aby, fun lo hi => .iscAbsY lo hi⟩,
    ⟨.abx, fun lo hi => .nopAbsX 0xFC lo hi⟩,
    ⟨.abx, fun lo hi => .sbcAbsX lo hi⟩,
    ⟨.abx, fun lo hi => .incAbsX lo hi⟩,
    ⟨.abx, fun lo hi => .iscAbsX lo hi⟩ ]

/-- The opcode map: one cell for each value of the opcode byte, in order. -/
def opcodeMap : List OpcodeCell :=
  opcodeRow0 ++ opcodeRow1 ++ opcodeRow2 ++ opcodeRow3 ++ opcodeRow4 ++ opcodeRow5 ++ opcodeRow6 ++ opcodeRow7 ++
  opcodeRow8 ++ opcodeRow9 ++ opcodeRowA ++ opcodeRowB ++ opcodeRowC ++ opcodeRowD ++ opcodeRowE ++ opcodeRowF

theorem opcodeMap_length : opcodeMap.length = 256 := by decide +kernel

/-- The cell of an opcode byte: every byte value has one (rule R285). -/
def opcodeCell (op : Byte) : OpcodeCell :=
  opcodeMap[op.toNat]'(by rw [opcodeMap_length]; exact op.isLt)

/-- The instruction with opcode `op` and the operand bytes that follow it. -/
def instrOf (op b1 b2 : Byte) : Instr :=
  (opcodeCell op).build b1 b2

/-- The length of the instruction with opcode `op` (rule R140). -/
def lengthOf (op : Byte) : Nat :=
  modeLength (opcodeCell op).mode

/-- The decoder (rule R146): the instruction at the head of a list of bytes, and the bytes after it. -/
def decode : List Byte → Except DecodeError (Instr × List Byte)
  | [] => .error .noOpcode
  | op :: rest =>
    if rest.length + 1 < lengthOf op then .error .truncated
    else .ok (instrOf op (rest.getD 0 0x00) (rest.getD 1 0x00), rest.drop (lengthOf op - 1))

/-- The decoder on one instruction's bits, numbered as the opcode table numbers them: the least significant byte
is the opcode, the next ones the operand bytes; bits at and above `nbits` are 0. -/
def decodeTableWord (nbits w : Nat) : Option Instr :=
  let v := w % 2 ^ nbits
  match decode [BitVec.ofNat 8 v, BitVec.ofNat 8 (v / 256), BitVec.ofNat 8 (v / 65536)] with
  | .ok (i, _) => some i
  | .error _ => none

/-- The encoder: the bytes of an instruction, opcode first (rules R140, R141, R143, R281). -/
def encode : Instr → List Byte
  | .brk => [0x00]
  | .oraIzX b1 => [0x01, b1]
  | .jam op => [op]
  | .sloIzX b1 => [0x03, b1]
  | .nopZp op b1 => [op, b1]
  | .oraZp b1 => [0x05, b1]
  | .aslZp b1 => [0x06, b1]
  | .sloZp b1 => [0x07, b1]
  | .php => [0x08]
  | .oraImm b1 => [0x09, b1]
  | .aslAcc => [0x0A]
  | .ancImm op b1 => [op, b1]
  | .nopAbs lo hi => [0x0C, lo, hi]
  | .oraAbs lo hi => [0x0D, lo, hi]
  | .aslAbs lo hi => [0x0E, lo, hi]
  | .sloAbs lo hi => [0x0F, lo, hi]
  | .bpl d => [0x10, d]
  | .oraIzY b1 => [0x11, b1]
  | .sloIzY b1 => [0x13, b1]
  | .nopZpX op b1 => [op, b1]
  | .oraZpX b1 => [0x15, b1]
  | .aslZpX b1 => [0x16, b1]
  | .sloZpX b1 => [0x17, b1]
  | .clc => [0x18]
  | .oraAbsY lo hi => [0x19, lo, hi]
  | .nopImp op => [op]
  | .sloAbsY lo hi => [0x1B, lo, hi]
  | .nopAbsX op lo hi => [op, lo, hi]
  | .oraAbsX lo hi => [0x1D, lo, hi]
  | .aslAbsX lo hi => [0x1E, lo, hi]
  | .sloAbsX lo hi => [0x1F, lo, hi]
  | .jsr lo hi => [0x20, lo, hi]
  | .andIzX b1 => [0x21, b1]
  | .rlaIzX b1 => [0x23, b1]
  | .bitZp b1 => [0x24, b1]
  | .andZp b1 => [0x25, b1]
  | .rolZp b1 => [0x26, b1]
  | .rlaZp b1 => [0x27, b1]
  | .plp => [0x28]
  | .andImm b1 => [0x29, b1]
  | .rolAcc => [0x2A]
  | .bitAbs lo hi => [0x2C, lo, hi]
  | .andAbs lo hi => [0x2D, lo, hi]
  | .rolAbs lo hi => [0x2E, lo, hi]
  | .rlaAbs lo hi => [0x2F, lo, hi]
  | .bmi d => [0x30, d]
  | .andIzY b1 => [0x31, b1]
  | .rlaIzY b1 => [0x33, b1]
  | .andZpX b1 => [0x35, b1]
  | .rolZpX b1 => [0x36, b1]
  | .rlaZpX b1 => [0x37, b1]
  | .sec => [0x38]
  | .andAbsY lo hi => [0x39, lo, hi]
  | .rlaAbsY lo hi => [0x3B, lo, hi]
  | .andAbsX lo hi => [0x3D, lo, hi]
  | .rolAbsX lo hi => [0x3E, lo, hi]
  | .rlaAbsX lo hi => [0x3F, lo, hi]
  | .rti => [0x40]
  | .eorIzX b1 => [0x41, b1]
  | .sreIzX b1 => [0x43, b1]
  | .eorZp b1 => [0x45, b1]
  | .lsrZp b1 => [0x46, b1]
  | .sreZp b1 => [0x47, b1]
  | .pha => [0x48]
  | .eorImm b1 => [0x49, b1]
  | .lsrAcc => [0x4A]
  | .alr b1 => [0x4B, b1]
  | .jmpAbs lo hi => [0x4C, lo, hi]
  | .eorAbs lo hi => [0x4D, lo, hi]
  | .lsrAbs lo hi => [0x4E, lo, hi]
  | .sreAbs lo hi => [0x4F, lo, hi]
  | .bvc d => [0x50, d]
  | .eorIzY b1 => [0x51, b1]
  | .sreIzY b1 => [0x53, b1]
  | .eorZpX b1 => [0x55, b1]
  | .lsrZpX b1 => [0x56, b1]
  | .sreZpX b1 => [0x57, b1]
  | .cli => [0x58]
  | .eorAbsY lo hi => [0x59, lo, hi]
  | .sreAbsY lo hi => [0x5B, lo, hi]
  | .eorAbsX lo hi => [0x5D, lo, hi]
  | .lsrAbsX lo hi => [0x5E, lo, hi]
  | .sreAbsX lo hi => [0x5F, lo, hi]
  | .rts => [0x60]
  | .adcIzX b1 => [0x61, b1]
  | .rraIzX b1 => [0x63, b1]
  | .adcZp b1 => [0x65, b1]
  | .rorZp b1 => [0x66, b1]
  | .rraZp b1 => [0x67, b1]
  | .pla => [0x68]
  | .adcImm b1 => [0x69, b1]
  | .rorAcc => [0x6A]
  | .arr b1 => [0x6B, b1]
  | .jmpInd lo hi => [0x6C, lo, hi]
  | .adcAbs lo hi => [0x6D, lo, hi]
  | .rorAbs lo hi => [0x6E, lo, hi]
  | .rraAbs lo hi => [0x6F, lo, hi]
  | .bvs d => [0x70, d]
  | .adcIzY b1 => [0x71, b1]
  | .rraIzY b1 => [0x73, b1]
  | .adcZpX b1 => [0x75, b1]
  | .rorZpX b1 => [0x76, b1]
  | .rraZpX b1 => [0x77, b1]
  | .sei => [0x78]
  | .adcAbsY lo hi => [0x79, lo, hi]
  | .rraAbsY lo hi => [0x7B, lo, hi]
  | .adcAbsX lo hi => [0x7D, lo, hi]
  | .rorAbsX lo hi => [0x7E, lo, hi]
  | .rraAbsX lo hi => [0x7F, lo, hi]
  | .nopImm op b1 => [op, b1]
  | .staIzX b1 => [0x81, b1]
  | .saxIzX b1 => [0x83, b1]
  | .styZp b1 => [0x84, b1]
  | .staZp b1 => [0x85, b1]
  | .stxZp b1 => [0x86, b1]
  | .saxZp b1 => [0x87, b1]
  | .dey => [0x88]
  | .txa => [0x8A]
  | .ane b1 => [0x8B, b1]
  | .styAbs lo hi => [0x8C, lo, hi]
  | .staAbs lo hi => [0x8D, lo, hi]
  | .stxAbs lo hi => [0x8E, lo, hi]
  | .saxAbs lo hi => [0x8F, lo, hi]
  | .bcc d => [0x90, d]
  | .staIzY b1 => [0x91, b1]
  | .shaIzY b1 => [0x93, b1]
  | .styZpX b1 => [0x94, b1]
  | .staZpX b1 => [0x95, b1]
  | .stxZpY b1 => [0x96, b1]
  | .saxZpY b1 => [0x97, b1]
  | .tya => [0x98]
  | .staAbsY lo hi => [0x99, lo, hi]
  | .txs => [0x9A]
  | .tas lo hi => [0x9B, lo, hi]
  | .shy lo hi => [0x9C, lo, hi]
  | .staAbsX lo hi => [0x9D, lo, hi]
  | .shx lo hi => [0x9E, lo, hi]
  | .shaAbsY lo hi => [0x9F, lo, hi]
  | .ldyImm b1 => [0xA0, b1]
  | .ldaIzX b1 => [0xA1, b1]
  | .ldxImm b1 => [0xA2, b1]
  | .laxIzX b1 => [0xA3, b1]
  | .ldyZp b1 => [0xA4, b1]
  | .ldaZp b1 => [0xA5, b1]
  | .ldxZp b1 => [0xA6, b1]
  | .laxZp b1 => [0xA7, b1]
  | .tay => [0xA8]
  | .ldaImm b1 => [0xA9, b1]
  | .tax => [0xAA]
  | .lxa b1 => [0xAB, b1]
  | .ldyAbs lo hi => [0xAC, lo, hi]
  | .ldaAbs lo hi => [0xAD, lo, hi]
  | .ldxAbs lo hi => [0xAE, lo, hi]
  | .laxAbs lo hi => [0xAF, lo, hi]
  | .bcs d => [0xB0, d]
  | .ldaIzY b1 => [0xB1, b1]
  | .laxIzY b1 => [0xB3, b1]
  | .ldyZpX b1 => [0xB4, b1]
  | .ldaZpX b1 => [0xB5, b1]
  | .ldxZpY b1 => [0xB6, b1]
  | .laxZpY b1 => [0xB7, b1]
  | .clv => [0xB8]
  | .ldaAbsY lo hi => [0xB9, lo, hi]
  | .tsx => [0xBA]
  | .las lo hi => [0xBB, lo, hi]
  | .ldyAbsX lo hi => [0xBC, lo, hi]
  | .ldaAbsX lo hi => [0xBD, lo, hi]
  | .ldxAbsY lo hi => [0xBE, lo, hi]
  | .laxAbsY lo hi => [0xBF, lo, hi]
  | .cpyImm b1 => [0xC0, b1]
  | .cmpIzX b1 => [0xC1, b1]
  | .dcpIzX b1 => [0xC3, b1]
  | .cpyZp b1 => [0xC4, b1]
  | .cmpZp b1 => [0xC5, b1]
  | .decZp b1 => [0xC6, b1]
  | .dcpZp b1 => [0xC7, b1]
  | .iny => [0xC8]
  | .cmpImm b1 => [0xC9, b1]
  | .dex => [0xCA]
  | .sbx b1 => [0xCB, b1]
  | .cpyAbs lo hi => [0xCC, lo, hi]
  | .cmpAbs lo hi => [0xCD, lo, hi]
  | .decAbs lo hi => [0xCE, lo, hi]
  | .dcpAbs lo hi => [0xCF, lo, hi]
  | .bne d => [0xD0, d]
  | .cmpIzY b1 => [0xD1, b1]
  | .dcpIzY b1 => [0xD3, b1]
  | .cmpZpX b1 => [0xD5, b1]
  | .decZpX b1 => [0xD6, b1]
  | .dcpZpX b1 => [0xD7, b1]
  | .cld => [0xD8]
  | .cmpAbsY lo hi => [0xD9, lo, hi]
  | .dcpAbsY lo hi => [0xDB, lo, hi]
  | .cmpAbsX lo hi => [0xDD, lo, hi]
  | .decAbsX lo hi => [0xDE, lo, hi]
  | .dcpAbsX lo hi => [0xDF, lo, hi]
  | .cpxImm b1 => [0xE0, b1]
  | .sbcIzX b1 => [0xE1, b1]
  | .iscIzX b1 => [0xE3, b1]
  | .cpxZp b1 => [0xE4, b1]
  | .sbcZp b1 => [0xE5, b1]
  | .incZp b1 => [0xE6, b1]
  | .iscZp b1 => [0xE7, b1]
  | .inx => [0xE8]
  | .sbcImm b1 => [0xE9, b1]
  | .nop => [0xEA]
  | .usbc b1 => [0xEB, b1]
  | .cpxAbs lo hi => [0xEC, lo, hi]
  | .sbcAbs lo hi => [0xED, lo, hi]
  | .incAbs lo hi => [0xEE, lo, hi]
  | .iscAbs lo hi => [0xEF, lo, hi]
  | .beq d => [0xF0, d]
  | .sbcIzY b1 => [0xF1, b1]
  | .iscIzY b1 => [0xF3, b1]
  | .sbcZpX b1 => [0xF5, b1]
  | .incZpX b1 => [0xF6, b1]
  | .iscZpX b1 => [0xF7, b1]
  | .sed => [0xF8]
  | .sbcAbsY lo hi => [0xF9, lo, hi]
  | .iscAbsY lo hi => [0xFB, lo, hi]
  | .sbcAbsX lo hi => [0xFD, lo, hi]
  | .incAbsX lo hi => [0xFE, lo, hi]
  | .iscAbsX lo hi => [0xFF, lo, hi]

end Sys2Proof
end

