-- ==== Sys2Proof/Machine/Fetch.lean ====
section
/-!
DEFINITION. The instruction at the program counter, as the bus gives its bytes; the input snapshot a step takes; and
the placing of an instruction's bytes where the next fetch finds them (rules R52, R79, R146, R258).
-/

namespace Sys2Proof.Machine

/-- The opcode of JSR, whose third byte is read after its pushes (rule R258). -/
def jsrOpcode : Byte := 0x20

/-- The three bytes from `PC` on that the fetch cycles of an instruction read, each in the cycle that reads it: the
second and third of them are of interest only as far as the instruction is long.  The state these cycles lead to is
discarded; the instruction makes them itself. -/
def fetchBytes (s : State) : List Byte :=
  let op := fetchByte s
  let b1 := fetchByte op.2
  let b2 := rd b1.2.cpu.pc (if op.1 = jsrOpcode then callCycles b1.2 else b1.2)
  [op.1, b1.1, b2.1]

/-- The instruction a system step executes (rule R146). -/
def fetchInstr (s : State) : Instr :=
  match fetchBytes s with
  | [op, b1, b2] => instrOf op b1 b2
  | _ => .nop

/-- The input snapshot of the coming step: the next one the host has ready, or the one in force (rule R52). -/
def takeInputs (s : State) : State :=
  match s.pending with
  | [] => s
  | i :: rest => { s with inp := i, pending := rest }

/-! ### Placing an instruction -/

/-- A byte put where a read of a CPU address finds it, if that is RAM or the cartridge image. -/
def placeByte (addr : Word) (v : Byte) (s : State) : State :=
  match decodeBus (busAddr addr) with
  | .cartridge off => { s with map := { s.map with rom := writeCell s.map.rom (imageIndex s.map off) v } }
  | .ram i => { s with ram := writeCell s.ram i.toNat v }
  | .tia _ | .riot _ => s

/-- Whether a CPU address is RAM or a place of the cartridge image that is neither a hot-spot of a scheme nor under
the cartridge RAM's ports. -/
def holdsCode (addr : Word) : Bool :=
  match decodeBus (busAddr addr) with
  | .cartridge off => decide (0x100 ≤ off.toNat ∧ off.toNat < 0xFE0)
  | .ram _ => true
  | .tia _ | .riot _ => false

/-- The address at which an instruction of up to three bytes is placed: `PC`, or `0xF100` where `PC` leads to no place
that can hold one. -/
def codeHome (s : State) : Word :=
  if holdsCode s.cpu.pc && holdsCode (s.cpu.pc + 1) && holdsCode (s.cpu.pc + 2) then s.cpu.pc else 0xF100

/-- The state whose next step runs the instruction with the given three bytes. -/
def placeInstr (b0 b1 b2 : Byte) (s : State) : State :=
  let s := { s with cpu := { s.cpu with pc := codeHome s }, fault := none }
  placeByte s.cpu.pc b0 (placeByte (s.cpu.pc + 1) b1 (placeByte (s.cpu.pc + 2) b2 s))

end Sys2Proof.Machine
end

