-- ==== Sys2Proof/Machine/Step.lean ====
section
/-!
DEFINITION. One system step (rules R61, R302), and the state whose next step runs a given instruction.
-/

namespace Sys2Proof.Machine

/-- A system step: none while the machine is in the fault state (rule R302), else the instruction at `PC` under the
input snapshot of this step (rules R52, R61, R146). -/
def step (s : State) : Host.Outcome State Fault Refusal :=
  match s.fault with
  | some r => .fault (.unsupportedOpcode r)
  | none => exec (fetchInstr (takeInputs s)) (takeInputs s)

/-- The state with one instruction, its bits numbered as the opcode table numbers them, placed where the next step
fetches it (log entry 3). -/
def State.withFetchWord (s : State) (nbits w : Nat) : State :=
  let v := w % 2 ^ nbits
  placeInstr (BitVec.ofNat 8 v) (BitVec.ofNat 8 (v / 256)) (BitVec.ofNat 8 (v / 65536)) s

end Sys2Proof.Machine
end

