-- ==== Sys2Proof/Machine/Forms.lean ====
section
/-!
DEFINITION. The opcode table as data: for every instruction its mnemonic, its addressing mode, its opcode byte, its
documented cycle cost without the adjustments of rule R145, and its operand bytes (rules R140, R141, R143 table E-2,
R145 table E-3, R281 table U-1).  The machine does not use this table; the statements do.
-/

namespace Sys2Proof.Machine

/-- The mnemonics: the 56 documented ones (rule R143), then the 22 names of table U-1 (rule R281), with `nopUndoc` the
undocumented NOPs. -/
inductive Mnemonic where
  | adc | and | asl | bcc | bcs | beq | bit | bmi | bne | bpl | brk | bvc | bvs | clc | cld | cli | clv | cmp
  | cpx | cpy | dec | dex | dey | eor | inc | inx | iny | jmp | jsr | lda | ldx | ldy | lsr | nop | ora | pha
  | php | pla | plp | rol | ror | rti | rts | sbc | sec | sed | sei | sta | stx | sty | tax | tay | tsx | txa
  | txs | tya
  | alr | anc | ane | arr | dcp | isc | jam | las | lax | lxa | nopUndoc | rla | rra | sax | sbx | sha | shx
  | shy | slo | sre | tas | usbc
  deriving DecidableEq, Repr

/-- Whether the mnemonic is one of the 56 documented ones (rules R143, R160). -/
def Mnemonic.documented : Mnemonic → Bool
  | .adc | .and | .asl | .bcc | .bcs | .beq | .bit | .bmi | .bne | .bpl | .brk | .bvc | .bvs | .clc | .cld
  | .cli | .clv | .cmp | .cpx | .cpy | .dec | .dex | .dey | .eor | .inc | .inx | .iny | .jmp | .jsr | .lda
  | .ldx | .ldy | .lsr | .nop | .ora | .pha | .php | .pla | .plp | .rol | .ror | .rti | .rts | .sbc | .sec
  | .sed | .sei | .sta | .stx | .sty | .tax | .tay | .tsx | .txa | .txs | .tya => true
  | .alr | .anc | .ane | .arr | .dcp | .isc | .jam | .las | .lax | .lxa | .nopUndoc | .rla | .rra | .sax
  | .sbx | .sha | .shx | .shy | .slo | .sre | .tas | .usbc => false

/-- One row of the opcode table with its operand bytes, 0 where the format has none. -/
structure Form where
  name : Mnemonic
  mode : Mode
  op : Byte
  cycles : Nat
  b1 : Byte
  b2 : Byte
  deriving DecidableEq, Repr

/-- The bytes of a row, opcode first, as many as its mode has (rules R140, R141). -/
def Form.bytes (f : Form) : List Byte :=
  match f.mode with
  | .imp | .acc => [f.op]
  | .imm | .zp | .zpx | .zpy | .izx | .izy | .rel => [f.op, f.b1]
  | .abs | .abx | .aby | .ind => [f.op, f.b1, f.b2]

end Sys2Proof.Machine

namespace Sys2Proof

/-- The row of an instruction. -/
def Instr.form : Instr → Machine.Form
  | .brk => ⟨.brk, .imp, 0x00, 7, 0, 0⟩
  | .oraIzX b1 => ⟨.ora, .izx, 0x01, 6, b1, 0⟩
  | .jam op => ⟨.jam, .imp, op, 2, 0, 0⟩
  | .sloIzX b1 => ⟨.slo, .izx, 0x03, 8, b1, 0⟩
  | .nopZp op b1 => ⟨.nopUndoc, .zp, op, 3, b1, 0⟩
  | .oraZp b1 => ⟨.ora, .zp, 0x05, 3, b1, 0⟩
  | .aslZp b1 => ⟨.asl, .zp, 0x06, 5, b1, 0⟩
  | .sloZp b1 => ⟨.slo, .zp, 0x07, 5, b1, 0⟩
  | .php => ⟨.php, .imp, 0x08, 3, 0, 0⟩
  | .oraImm b1 => ⟨.ora, .imm, 0x09, 2, b1, 0⟩
  | .aslAcc => ⟨.asl, .acc, 0x0A, 2, 0, 0⟩
  | .ancImm op b1 => ⟨.anc, .imm, op, 2, b1, 0⟩
  | .nopAbs lo hi => ⟨.nopUndoc, .abs, 0x0C, 4, lo, hi⟩
  | .oraAbs lo hi => ⟨.ora, .abs, 0x0D, 4, lo, hi⟩
  | .aslAbs lo hi => ⟨.asl, .abs, 0x0E, 6, lo, hi⟩
  | .sloAbs lo hi => ⟨.slo, .abs, 0x0F, 6, lo, hi⟩
  | .bpl d => ⟨.bpl, .rel, 0x10, 2, d, 0⟩
  | .oraIzY b1 => ⟨.ora, .izy, 0x11, 5, b1, 0⟩
  | .sloIzY b1 => ⟨.slo, .izy, 0x13, 8, b1, 0⟩
  | .nopZpX op b1 => ⟨.nopUndoc, .zpx, op, 4, b1, 0⟩
  | .oraZpX b1 => ⟨.ora, .zpx, 0x15, 4, b1, 0⟩
  | .aslZpX b1 => ⟨.asl, .zpx, 0x16, 6, b1, 0⟩
  | .sloZpX b1 => ⟨.slo, .zpx, 0x17, 6, b1, 0⟩
  | .clc => ⟨.clc, .imp, 0x18, 2, 0, 0⟩
  | .oraAbsY lo hi => ⟨.ora, .aby, 0x19, 4, lo, hi⟩
  | .nopImp op => ⟨.nopUndoc, .imp, op, 2, 0, 0⟩
  | .sloAbsY lo hi => ⟨.slo, .aby, 0x1B, 7, lo, hi⟩
  | .nopAbsX op lo hi => ⟨.nopUndoc, .abx, op, 4, lo, hi⟩
  | .oraAbsX lo hi => ⟨.ora, .abx, 0x1D, 4, lo, hi⟩
  | .aslAbsX lo hi => ⟨.asl, .abx, 0x1E, 7, lo, hi⟩
  | .sloAbsX lo hi => ⟨.slo, .abx, 0x1F, 7, lo, hi⟩
  | .jsr lo hi => ⟨.jsr, .abs, 0x20, 6, lo, hi⟩
  | .andIzX b1 => ⟨.and, .izx, 0x21, 6, b1, 0⟩
  | .rlaIzX b1 => ⟨.rla, .izx, 0x23, 8, b1, 0⟩
  | .bitZp b1 => ⟨.bit, .zp, 0x24, 3, b1, 0⟩
  | .andZp b1 => ⟨.and, .zp, 0x25, 3, b1, 0⟩
  | .rolZp b1 => ⟨.rol, .zp, 0x26, 5, b1, 0⟩
  | .rlaZp b1 => ⟨.rla, .zp, 0x27, 5, b1, 0⟩
  | .plp => ⟨.plp, .imp, 0x28, 4, 0, 0⟩
  | .andImm b1 => ⟨.and, .imm, 0x29, 2, b1, 0⟩
  | .rolAcc => ⟨.rol, .acc, 0x2A, 2, 0, 0⟩
  | .bitAbs lo hi => ⟨.bit, .abs, 0x2C, 4, lo, hi⟩
  | .andAbs lo hi => ⟨.and, .abs, 0x2D, 4, lo, hi⟩
  | .rolAbs lo hi => ⟨.rol, .abs, 0x2E, 6, lo, hi⟩
  | .rlaAbs lo hi => ⟨.rla, .abs, 0x2F, 6, lo, hi⟩
  | .bmi d => ⟨.bmi, .rel, 0x30, 2, d, 0⟩
  | .andIzY b1 => ⟨.and, .izy, 0x31, 5, b1, 0⟩
  | .rlaIzY b1 => ⟨.rla, .izy, 0x33, 8, b1, 0⟩
  | .andZpX b1 => ⟨.and, .zpx, 0x35, 4, b1, 0⟩
  | .rolZpX b1 => ⟨.rol, .zpx, 0x36, 6, b1, 0⟩
  | .rlaZpX b1 => ⟨.rla, .zpx, 0x37, 6, b1, 0⟩
  | .sec => ⟨.sec, .imp, 0x38, 2, 0, 0⟩
  | .andAbsY lo hi => ⟨.and, .aby, 0x39, 4, lo, hi⟩
  | .rlaAbsY lo hi => ⟨.rla, .aby, 0x3B, 7, lo, hi⟩
  | .andAbsX lo hi => ⟨.and, .abx, 0x3D, 4, lo, hi⟩
  | .rolAbsX lo hi => ⟨.rol, .abx, 0x3E, 7, lo, hi⟩
  | .rlaAbsX lo hi => ⟨.rla, .abx, 0x3F, 7, lo, hi⟩
  | .rti => ⟨.rti, .imp, 0x40, 6, 0, 0⟩
  | .eorIzX b1 => ⟨.eor, .izx, 0x41, 6, b1, 0⟩
  | .sreIzX b1 => ⟨.sre, .izx, 0x43, 8, b1, 0⟩
  | .eorZp b1 => ⟨.eor, .zp, 0x45, 3, b1, 0⟩
  | .lsrZp b1 => ⟨.lsr, .zp, 0x46, 5, b1, 0⟩
  | .sreZp b1 => ⟨.sre, .zp, 0x47, 5, b1, 0⟩
  | .pha => ⟨.pha, .imp, 0x48, 3, 0, 0⟩
  | .eorImm b1 => ⟨.eor, .imm, 0x49, 2, b1, 0⟩
  | .lsrAcc => ⟨.lsr, .acc, 0x4A, 2, 0, 0⟩
  | .alr b1 => ⟨.alr, .imm, 0x4B, 2, b1, 0⟩
  | .jmpAbs lo hi => ⟨.jmp, .abs, 0x4C, 3, lo, hi⟩
  | .eorAbs lo hi => ⟨.eor, .abs, 0x4D, 4, lo, hi⟩
  | .lsrAbs lo hi => ⟨.lsr, .abs, 0x4E, 6, lo, hi⟩
  | .sreAbs lo hi => ⟨.sre, .abs, 0x4F, 6, lo, hi⟩
  | .bvc d => ⟨.bvc, .rel, 0x50, 2, d, 0⟩
  | .eorIzY b1 => ⟨.eor, .izy, 0x51, 5, b1, 0⟩
  | .sreIzY b1 => ⟨.sre, .izy, 0x53, 8, b1, 0⟩
  | .eorZpX b1 => ⟨.eor, .zpx, 0x55, 4, b1, 0⟩
  | .lsrZpX b1 => ⟨.lsr, .zpx, 0x56, 6, b1, 0⟩
  | .sreZpX b1 => ⟨.sre, .zpx, 0x57, 6, b1, 0⟩
  | .cli => ⟨.cli, .imp, 0x58, 2, 0, 0⟩
  | .eorAbsY lo hi => ⟨.eor, .aby, 0x59, 4, lo, hi⟩
  | .sreAbsY lo hi => ⟨.sre, .aby, 0x5B, 7, lo, hi⟩
  | .eorAbsX lo hi => ⟨.eor, .abx, 0x5D, 4, lo, hi⟩
  | .lsrAbsX lo hi => ⟨.lsr, .abx, 0x5E, 7, lo, hi⟩
  | .sreAbsX lo hi => ⟨.sre, .abx, 0x5F, 7, lo, hi⟩
  | .rts => ⟨.rts, .imp, 0x60, 6, 0, 0⟩
  | .adcIzX b1 => ⟨.adc, .izx, 0x61, 6, b1, 0⟩
  | .rraIzX b1 => ⟨.rra, .izx, 0x63, 8, b1, 0⟩
  | .adcZp b1 => ⟨.adc, .zp, 0x65, 3, b1, 0⟩
  | .rorZp b1 => ⟨.ror, .zp, 0x66, 5, b1, 0⟩
  | .rraZp b1 => ⟨.rra, .zp, 0x67, 5, b1, 0⟩
  | .pla => ⟨.pla, .imp, 0x68, 4, 0, 0⟩
  | .adcImm b1 => ⟨.adc, .imm, 0x69, 2, b1, 0⟩
  | .rorAcc => ⟨.ror, .acc, 0x6A, 2, 0, 0⟩
  | .arr b1 => ⟨.arr, .imm, 0x6B, 2, b1, 0⟩
  | .jmpInd lo hi => ⟨.jmp, .ind, 0x6C, 5, lo, hi⟩
  | .adcAbs lo hi => ⟨.adc, .abs, 0x6D, 4, lo, hi⟩
  | .rorAbs lo hi => ⟨.ror, .abs, 0x6E, 6, lo, hi⟩
  | .rraAbs lo hi => ⟨.rra, .abs, 0x6F, 6, lo, hi⟩
  | .bvs d => ⟨.bvs, .rel, 0x70, 2, d, 0⟩
  | .adcIzY b1 => ⟨.adc, .izy, 0x71, 5, b1, 0⟩
  | .rraIzY b1 => ⟨.rra, .izy, 0x73, 8, b1, 0⟩
  | .adcZpX b1 => ⟨.adc, .zpx, 0x75, 4, b1, 0⟩
  | .rorZpX b1 => ⟨.ror, .zpx, 0x76, 6, b1, 0⟩
  | .rraZpX b1 => ⟨.rra, .zpx, 0x77, 6, b1, 0⟩
  | .sei => ⟨.sei, .imp, 0x78, 2, 0, 0⟩
  | .adcAbsY lo hi => ⟨.adc, .aby, 0x79, 4, lo, hi⟩
  | .rraAbsY lo hi => ⟨.rra, .aby, 0x7B, 7, lo, hi⟩
  | .adcAbsX lo hi => ⟨.adc, .abx, 0x7D, 4, lo, hi⟩
  | .rorAbsX lo hi => ⟨.ror, .abx, 0x7E, 7, lo, hi⟩
  | .rraAbsX lo hi => ⟨.rra, .abx, 0x7F, 7, lo, hi⟩
  | .nopImm op b1 => ⟨.nopUndoc, .imm, op, 2, b1, 0⟩
  | .staIzX b1 => ⟨.sta, .izx, 0x81, 6, b1, 0⟩
  | .saxIzX b1 => ⟨.sax, .izx, 0x83, 6, b1, 0⟩
  | .styZp b1 => ⟨.sty, .zp, 0x84, 3, b1, 0⟩
  | .staZp b1 => ⟨.sta, .zp, 0x85, 3, b1, 0⟩
  | .stxZp b1 => ⟨.stx, .zp, 0x86, 3, b1, 0⟩
  | .saxZp b1 => ⟨.sax, .zp, 0x87, 3, b1, 0⟩
  | .dey => ⟨.dey, .imp, 0x88, 2, 0, 0⟩
  | .txa => ⟨.txa, .imp, 0x8A, 2, 0, 0⟩
  | .ane b1 => ⟨.ane, .imm, 0x8B, 2, b1, 0⟩
  | .styAbs lo hi => ⟨.sty, .abs, 0x8C, 4, lo, hi⟩
  | .staAbs lo hi => ⟨.sta, .abs, 0x8D, 4, lo, hi⟩
  | .stxAbs lo hi => ⟨.stx, .abs, 0x8E, 4, lo, hi⟩
  | .saxAbs lo hi => ⟨.sax, .abs, 0x8F, 4, lo, hi⟩
  | .bcc d => ⟨.bcc, .rel, 0x90, 2, d, 0⟩
  | .staIzY b1 => ⟨.sta, .izy, 0x91, 6, b1, 0⟩
  | .shaIzY b1 => ⟨.sha, .izy, 0x93, 6, b1, 0⟩
  | .styZpX b1 => ⟨.sty, .zpx, 0x94, 4, b1, 0⟩
  | .staZpX b1 => ⟨.sta, .zpx, 0x95, 4, b1, 0⟩
  | .stxZpY b1 => ⟨.stx, .zpy, 0x96, 4, b1, 0⟩
  | .saxZpY b1 => ⟨.sax, .zpy, 0x97, 4, b1, 0⟩
  | .tya => ⟨.tya, .imp, 0x98, 2, 0, 0⟩
  | .staAbsY lo hi => ⟨.sta, .aby, 0x99, 5, lo, hi⟩
  | .txs => ⟨.txs, .imp, 0x9A, 2, 0, 0⟩
  | .tas lo hi => ⟨.tas, .aby, 0x9B, 5, lo, hi⟩
  | .shy lo hi => ⟨.shy, .abx, 0x9C, 5, lo, hi⟩
  | .staAbsX lo hi => ⟨.sta, .abx, 0x9D, 5, lo, hi⟩
  | .shx lo hi => ⟨.shx, .aby, 0x9E, 5, lo, hi⟩
  | .shaAbsY lo hi => ⟨.sha, .aby, 0x9F, 5, lo, hi⟩
  | .ldyImm b1 => ⟨.ldy, .imm, 0xA0, 2, b1, 0⟩
  | .ldaIzX b1 => ⟨.lda, .izx, 0xA1, 6, b1, 0⟩
  | .ldxImm b1 => ⟨.ldx, .imm, 0xA2, 2, b1, 0⟩
  | .laxIzX b1 => ⟨.lax, .izx, 0xA3, 6, b1, 0⟩
  | .ldyZp b1 => ⟨.ldy, .zp, 0xA4, 3, b1, 0⟩
  | .ldaZp b1 => ⟨.lda, .zp, 0xA5, 3, b1, 0⟩
  | .ldxZp b1 => ⟨.ldx, .zp, 0xA6, 3, b1, 0⟩
  | .laxZp b1 => ⟨.lax, .zp, 0xA7, 3, b1, 0⟩
  | .tay => ⟨.tay, .imp, 0xA8, 2, 0, 0⟩
  | .ldaImm b1 => ⟨.lda, .imm, 0xA9, 2, b1, 0⟩
  | .tax => ⟨.tax, .imp, 0xAA, 2, 0, 0⟩
  | .lxa b1 => ⟨.lxa, .imm, 0xAB, 2, b1, 0⟩
  | .ldyAbs lo hi => ⟨.ldy, .abs, 0xAC, 4, lo, hi⟩
  | .ldaAbs lo hi => ⟨.lda, .abs, 0xAD, 4, lo, hi⟩
  | .ldxAbs lo hi => ⟨.ldx, .abs, 0xAE, 4, lo, hi⟩
  | .laxAbs lo hi => ⟨.lax, .abs, 0xAF, 4, lo, hi⟩
  | .bcs d => ⟨.bcs, .rel, 0xB0, 2, d, 0⟩
  | .ldaIzY b1 => ⟨.lda, .izy, 0xB1, 5, b1, 0⟩
  | .laxIzY b1 => ⟨.lax, .izy, 0xB3, 5, b1, 0⟩
  | .ldyZpX b1 => ⟨.ldy, .zpx, 0xB4, 4, b1, 0⟩
  | .ldaZpX b1 => ⟨.lda, .zpx, 0xB5, 4, b1, 0⟩
  | .ldxZpY b1 => ⟨.ldx, .zpy, 0xB6, 4, b1, 0⟩
  | .laxZpY b1 => ⟨.lax, .zpy, 0xB7, 4, b1, 0⟩
  | .clv => ⟨.clv, .imp, 0xB8, 2, 0, 0⟩
  | .ldaAbsY lo hi => ⟨.lda, .aby, 0xB9, 4, lo, hi⟩
  | .tsx => ⟨.tsx, .imp, 0xBA, 2, 0, 0⟩
  | .las lo hi => ⟨.las, .aby, 0xBB, 4, lo, hi⟩
  | .ldyAbsX lo hi => ⟨.ldy, .abx, 0xBC, 4, lo, hi⟩
  | .ldaAbsX lo hi => ⟨.lda, .abx, 0xBD, 4, lo, hi⟩
  | .ldxAbsY lo hi => ⟨.ldx, .aby, 0xBE, 4, lo, hi⟩
  | .laxAbsY lo hi => ⟨.lax, .aby, 0xBF, 4, lo, hi⟩
  | .cpyImm b1 => ⟨.cpy, .imm, 0xC0, 2, b1, 0⟩
  | .cmpIzX b1 => ⟨.cmp, .izx, 0xC1, 6, b1, 0⟩
  | .dcpIzX b1 => ⟨.dcp, .izx, 0xC3, 8, b1, 0⟩
  | .cpyZp b1 => ⟨.cpy, .zp, 0xC4, 3, b1, 0⟩
  | .cmpZp b1 => ⟨.cmp, .zp, 0xC5, 3, b1, 0⟩
  | .decZp b1 => ⟨.dec, .zp, 0xC6, 5, b1, 0⟩
  | .dcpZp b1 => ⟨.dcp, .zp, 0xC7, 5, b1, 0⟩
  | .iny => ⟨.iny, .imp, 0xC8, 2, 0, 0⟩
  | .cmpImm b1 => ⟨.cmp, .imm, 0xC9, 2, b1, 0⟩
  | .dex => ⟨.dex, .imp, 0xCA, 2, 0, 0⟩
  | .sbx b1 => ⟨.sbx, .imm, 0xCB, 2, b1, 0⟩
  | .cpyAbs lo hi => ⟨.cpy, .abs, 0xCC, 4, lo, hi⟩
  | .cmpAbs lo hi => ⟨.cmp, .abs, 0xCD, 4, lo, hi⟩
  | .decAbs lo hi => ⟨.dec, .abs, 0xCE, 6, lo, hi⟩
  | .dcpAbs lo hi => ⟨.dcp, .abs, 0xCF, 6, lo, hi⟩
  | .bne d => ⟨.bne, .rel, 0xD0, 2, d, 0⟩
  | .cmpIzY b1 => ⟨.cmp, .izy, 0xD1, 5, b1, 0⟩
  | .dcpIzY b1 => ⟨.dcp, .izy, 0xD3, 8, b1, 0⟩
  | .cmpZpX b1 => ⟨.cmp, .zpx, 0xD5, 4, b1, 0⟩
  | .decZpX b1 => ⟨.dec, .zpx, 0xD6, 6, b1, 0⟩
  | .dcpZpX b1 => ⟨.dcp, .zpx, 0xD7, 6, b1, 0⟩
  | .cld => ⟨.cld, .imp, 0xD8, 2, 0, 0⟩
  | .cmpAbsY lo hi => ⟨.cmp, .aby, 0xD9, 4, lo, hi⟩
  | .dcpAbsY lo hi => ⟨.dcp, .aby, 0xDB, 7, lo, hi⟩
  | .cmpAbsX lo hi => ⟨.cmp, .abx, 0xDD, 4, lo, hi⟩
  | .decAbsX lo hi => ⟨.dec, .abx, 0xDE, 7, lo, hi⟩
  | .dcpAbsX lo hi => ⟨.dcp, .abx, 0xDF, 7, lo, hi⟩
  | .cpxImm b1 => ⟨.cpx, .imm, 0xE0, 2, b1, 0⟩
  | .sbcIzX b1 => ⟨.sbc, .izx, 0xE1, 6, b1, 0⟩
  | .iscIzX b1 => ⟨.isc, .izx, 0xE3, 8, b1, 0⟩
  | .cpxZp b1 => ⟨.cpx, .zp, 0xE4, 3, b1, 0⟩
  | .sbcZp b1 => ⟨.sbc, .zp, 0xE5, 3, b1, 0⟩
  | .incZp b1 => ⟨.inc, .zp, 0xE6, 5, b1, 0⟩
  | .iscZp b1 => ⟨.isc, .zp, 0xE7, 5, b1, 0⟩
  | .inx => ⟨.inx, .imp, 0xE8, 2, 0, 0⟩
  | .sbcImm b1 => ⟨.sbc, .imm, 0xE9, 2, b1, 0⟩
  | .nop => ⟨.nop, .imp, 0xEA, 2, 0, 0⟩
  | .usbc b1 => ⟨.usbc, .imm, 0xEB, 2, b1, 0⟩
  | .cpxAbs lo hi => ⟨.cpx, .abs, 0xEC, 4, lo, hi⟩
  | .sbcAbs lo hi => ⟨.sbc, .abs, 0xED, 4, lo, hi⟩
  | .incAbs lo hi => ⟨.inc, .abs, 0xEE, 6, lo, hi⟩
  | .iscAbs lo hi => ⟨.isc, .abs, 0xEF, 6, lo, hi⟩
  | .beq d => ⟨.beq, .rel, 0xF0, 2, d, 0⟩
  | .sbcIzY b1 => ⟨.sbc, .izy, 0xF1, 5, b1, 0⟩
  | .iscIzY b1 => ⟨.isc, .izy, 0xF3, 8, b1, 0⟩
  | .sbcZpX b1 => ⟨.sbc, .zpx, 0xF5, 4, b1, 0⟩
  | .incZpX b1 => ⟨.inc, .zpx, 0xF6, 6, b1, 0⟩
  | .iscZpX b1 => ⟨.isc, .zpx, 0xF7, 6, b1, 0⟩
  | .sed => ⟨.sed, .imp, 0xF8, 2, 0, 0⟩
  | .sbcAbsY lo hi => ⟨.sbc, .aby, 0xF9, 4, lo, hi⟩
  | .iscAbsY lo hi => ⟨.isc, .aby, 0xFB, 7, lo, hi⟩
  | .sbcAbsX lo hi => ⟨.sbc, .abx, 0xFD, 4, lo, hi⟩
  | .incAbsX lo hi => ⟨.inc, .abx, 0xFE, 7, lo, hi⟩
  | .iscAbsX lo hi => ⟨.isc, .abx, 0xFF, 7, lo, hi⟩

end Sys2Proof
end

