-- ==== Sys2Proof/Machine/Reset.lean ====
section
/-!
DEFINITION. The host's two actions outside the step relation: loading an image and `Reset()` (rules R101 to R104,
R120, R121, R460 to R462).
-/

namespace Sys2Proof.Machine

/-- The interface error of loading (rules R101, R316). -/
inductive LoadError where
  /-- No admitted image has this many bytes. -/
  | size
  /-- The scheme does not fit the image size. -/
  | scheme
  /-- A start bank is no bank of the image, or another parameter is inadmissible. -/
  | parameters
  deriving DecidableEq, Repr

/-- The default start banks of a scheme (rule R104). -/
def defaultBanks : Scheme → Banks
  | .e0 => ⟨4, 5, 6⟩
  | .plain2k | .plain4k | .f8 | .f6 | .f4 | .ef | .f8sc | .f6sc | .f4sc | .s3f => ⟨0, 0, 0⟩

/-- `START_BANK` of a scheme: the host's, or the default (rules R104, R121). -/
def startBanks (par : Params) (k : Scheme) : Banks := par.startBank.getD (defaultBanks k)

/-- The registers after reset (rule R460): `PC` is loaded last. -/
def resetCpu (par : Params) (pc : Word) : Cpu where
  a := par.resetA
  x := par.resetX
  y := par.resetY
  sp := par.resetS
  pc := pc
  p := { n := par.resetN, v := par.resetV, d := par.resetD, i := true, z := par.resetZ, c := par.resetC }

/-- The state of `Reset()` before the vector is read (rules R121, R344, R418, R448, R460).  The output history starts
anew with the machine's run. -/
def resetChips (s : State) : State :=
  { s with
    cpu := resetCpu s.par s.cpu.pc
    cyc := 0
    ram := s.par.resetRam
    tia := Tia.reset (waveInit s.par.wave)
    riot := { timer := s.par.resetTimer, interval := s.par.resetInterval, sub := 0, flag := false }
    map := { s.map with bank := startBanks s.par s.map.scheme }
    dbus := 0x00
    fault := none
    out := [] }

/-- `Reset()` (rule R460). -/
def hostReset (s : State) : State :=
  let lo := readNoCycle 0xFFFC (resetChips s)
  let hi := readNoCycle 0xFFFD lo.2
  { hi.2 with cpu := resetCpu s.par (word hi.1 lo.1) }

/-- The image size of a number of bytes (rule R101). -/
def sizeOfBytes (n : Nat) : Option ImageSize :=
  match n with
  | 2048 => some .k2
  | 4096 => some .k4
  | 8192 => some .k8
  | 16384 => some .k16
  | 32768 => some .k32
  | 65536 => some .k64
  | _ => none

/-- The scheme by image size, where the host names none (rule R102). -/
def defaultScheme : ImageSize → Scheme
  | .k2 => .plain2k
  | .k4 => .plain4k
  | .k8 => .f8
  | .k16 => .f6
  | .k32 => .f4
  | .k64 => .ef

/-- The bytes of an image as a store. -/
def storeBytes : Nat → List Byte → Memory
  | _, [] => []
  | i, v :: rest => consCell i v (storeBytes (i + 1) rest)

/-- Loading an image (rules R101, R102, R462): the checks, then the machine that `Reset()` leaves. -/
def load (par : Params) (scheme : Option Scheme) (image : List Byte) (inp : Inputs) : Except LoadError State :=
  match sizeOfBytes image.length with
  | none => .error .size
  | some z =>
    let k := scheme.getD (defaultScheme z)
    if !k.fits z then .error .scheme
    else if !par.wellFormed k z then .error .parameters
    else
      .ok (hostReset
        { State.reset with
          map := { scheme := k, size := z, rom := storeBytes 0 image, bank := startBanks par k, ram := par.resetScram }
          par := par
          inp := inp })

end Sys2Proof.Machine
end

