-- ==== Sys2Proof/Safety.lean ====
section
/-!
DEFINITION. The terms the statements use: the bus cycles an instruction makes, written from the cycle lists of the
spec (rules R146 to R158, R183 to R186, R256 to R263, R282, R284) and not from the meanings; the invariant of the
machine's state; the part of the state that a program can observe.
-/

namespace Sys2Proof.Machine

/-! ### Bus cycles -/

/-- One bus cycle of the CPU (rule R62). -/
inductive BusCycle where
  | read (addr : Word)
  | write (addr : Word) (v : Byte)
  deriving DecidableEq, Repr

/-- The address of a bus cycle. -/
def BusCycle.addr : BusCycle → Word
  | .read a => a
  | .write a _ => a

/-- The state after one bus cycle. -/
def busCycle (c : BusCycle) (s : State) : State :=
  match c with
  | .read a => (rd a s).2
  | .write a v => wr a v s

/-- The state after a list of bus cycles, in order. -/
def busCycles : List BusCycle → State → State
  | [], s => s
  | c :: rest, s => busCycles rest (busCycle c s)

/-- The fetch of `n` consecutive bytes (rule R146). -/
def fetches : Nat → Word → List BusCycle
  | 0, _ => []
  | n + 1, pc => .read pc :: fetches n (pc + 1)

/-- Whether a list of bus cycles writes to RSYNC (rules R67, R373). -/
def writesRsync (l : List BusCycle) : Bool :=
  l.any fun c =>
    match c with
    | .read _ => false
    | .write a _ => decide (decodeBus (busAddr a) = .tia 0x03)

/-- No cycle of the list raises: it writes no RSYNC, or the machine ignores such a write (rule R373). -/
def Quiet (l : List BusCycle) (s : State) : Prop := writesRsync l = false ∨ s.par.rsyncPolicy = .ignore

/-! ### Addresses and operands by addressing mode -/

/-- The length of the instruction in bytes (rule R141 table E-1). -/
def Form.length (f : Form) : Nat := modeLength f.mode

/-- The address of the next sequential instruction (rule R23). -/
def Form.nextPc (f : Form) (s : State) : Word := s.cpu.pc + BitVec.ofNat 16 f.length

/-- The effective address, by the functions the meanings use. -/
def Form.effAddr (f : Form) (s : State) : Word :=
  match f.mode with
  | .zp => (addrZp f.b1 s).1
  | .zpx => (addrZpIndexed f.b1 s.cpu.x s).1
  | .zpy => (addrZpIndexed f.b1 s.cpu.y s).1
  | .abs => (addrAbs f.b1 f.b2 s).1
  | .abx => (addrAbsX f.b1 f.b2 s).1
  | .aby => (addrAbsY f.b1 f.b2 s).1
  | .izx => (addrIzX f.b1 s).1
  | .izy => (addrIzY f.b1 s).1
  | .imp | .acc | .imm | .rel | .ind => 0

/-- The address `t` of the indexed modes, whose high byte has not had the carry yet; the effective address in every
other mode (rules R152, R156). -/
def Form.partialAddr (f : Form) (s : State) : Word :=
  match f.mode with
  | .abx => word f.b2 (f.b1 + s.cpu.x)
  | .aby => word f.b2 (f.b1 + s.cpu.y)
  | .izy => uncorrected (pointerIzY f.b1 s).1 s.cpu.y
  | .imp | .acc | .imm | .zp | .zpx | .zpy | .abs | .izx | .rel | .ind => f.effAddr s

/-- The cycles before the first one at `t` or at the effective address. -/
def Form.leadCycles (f : Form) (s : State) : List BusCycle :=
  match f.mode with
  | .imp | .acc => fetches 1 s.cpu.pc
  | .imm | .zp | .rel => fetches 2 s.cpu.pc
  | .abs | .abx | .aby | .ind => fetches 3 s.cpu.pc
  | .zpx | .zpy => fetches 2 s.cpu.pc ++ [.read (zext f.b1)]
  | .izx =>
    fetches 2 s.cpu.pc ++ [.read (zext f.b1), .read (zext (f.b1 + s.cpu.x)), .read (zext (f.b1 + s.cpu.x + 1))]
  | .izy => fetches 2 s.cpu.pc ++ [.read (zext f.b1), .read (zext (f.b1 + 1))]

/-- The cycles before the access of class write or rmw: the indexed modes always read `t` (rules R153, R154, R157,
R284). -/
def Form.addressCycles (f : Form) (s : State) : List BusCycle :=
  match f.mode with
  | .abx | .aby | .izy => f.leadCycles s ++ [.read (f.partialAddr s)]
  | .imp | .acc | .imm | .zp | .zpx | .zpy | .abs | .izx | .rel | .ind => f.leadCycles s

/-- Whether the index carries into the high byte of the address. -/
def Form.crosses (f : Form) (s : State) : Bool := decide (f.partialAddr s ≠ f.effAddr s)

/-- The cycles of class read (rules R148 to R152, R155, R156). -/
def Form.readCycles (f : Form) (s : State) : List BusCycle :=
  match f.mode with
  | .imm => f.leadCycles s
  | .imp | .acc | .zp | .zpx | .zpy | .abs | .abx | .aby | .izx | .izy | .rel | .ind =>
    f.leadCycles s ++ .read (f.partialAddr s) :: if f.crosses s then [.read (f.effAddr s)] else []

/-- The operand byte of class read: the byte of the instruction in mode `imm`, else the byte the last cycle read,
which is the value then on the data bus. -/
def Form.operand (f : Form) (s : State) : Byte :=
  match f.mode with
  | .imm => f.b1
  | .imp | .acc | .zp | .zpx | .zpy | .abs | .abx | .aby | .izx | .izy | .rel | .ind =>
    (busCycles (f.readCycles s) s).dbus

/-- The cycles of class write (rules R149 to R151, R153, R155, R157). -/
def Form.writeCycles (f : Form) (v : Byte) (s : State) : List BusCycle :=
  f.addressCycles s ++ [.write (f.effAddr s) v]

/-- The operand byte of class rmw. -/
def Form.rmwOperand (f : Form) (s : State) : Byte :=
  (busCycles (f.addressCycles s ++ [.read (f.effAddr s)]) s).dbus

/-- The cycles of class rmw with result `r` (rules R149 to R151, R154, R284). -/
def Form.rmwCycles (f : Form) (r : Byte) (s : State) : List BusCycle :=
  f.addressCycles s ++ [.read (f.effAddr s), .write (f.effAddr s) (f.rmwOperand s), .write (f.effAddr s) r]

/-! ### The other cycle lists -/

/-- Modes `imp` and `acc` (rule R147). -/
def impliedList (s : State) : List BusCycle := [.read s.cpu.pc, .read (s.cpu.pc + 1)]

/-- The stack address of a stack pointer value (rule R22). -/
def stackByte (sp : Byte) : Word := word 0x01 sp

/-- A branch (rule R158). -/
def branchCycles (taken : Bool) (d : Byte) (s : State) : List BusCycle :=
  let next := s.cpu.pc + 2
  let target := next + sext d
  fetches 2 s.cpu.pc ++
    if taken then
      .read next :: if hiByte target = hiByte next then [] else [.read (word (hiByte next) (loByte target))]
    else []

/-- The pull of `n` bytes after a dummy read at the stack pointer, which comes first in the list (rules R185, R186,
R259, R263). -/
def pullCycles : Nat → Byte → List BusCycle
  | 0, sp => [.read (stackByte sp)]
  | n + 1, sp => .read (stackByte sp) :: pullCycles n (sp + 1)

/-- Policy `nop`: the bytes of the instruction, then dummy reads at the next instruction (rule R282). -/
def nopCycles (f : Form) (s : State) : List BusCycle :=
  fetches f.length s.cpu.pc ++ List.replicate (f.cycles - f.length) (.read (f.nextPc s))

/-- The result byte of a read-modify-write operation on `m` (rules R211, R212, R217 to R220, R283); 0 for a mnemonic
that has none. -/
def Mnemonic.modify (n : Mnemonic) (m : Byte) (p : Flags) : Byte :=
  match n with
  | .asl | .slo => m <<< 1
  | .lsr | .sre => m >>> 1
  | .rol | .rla => (m <<< 1) ||| (BitVec.ofBool p.c).setWidth 8
  | .ror | .rra => (m >>> 1) ||| ((BitVec.ofBool p.c).setWidth 8 <<< 7)
  | .inc | .isc => m + 1
  | .dec | .dcp => m - 1
  | .adc | .and | .bcc | .bcs | .beq | .bit | .bmi | .bne | .bpl | .brk | .bvc | .bvs | .clc | .cld | .cli | .clv
  | .cmp | .cpx | .cpy | .dex | .dey | .eor | .inx | .iny | .jmp | .jsr | .lda | .ldx | .ldy | .nop | .ora | .pha
  | .php | .pla | .plp | .rti | .rts | .sbc | .sec | .sed | .sei | .sta | .stx | .sty | .tax | .tay | .tsx | .txa
  | .txs | .tya | .alr | .anc | .ane | .arr | .jam | .las | .lax | .lxa | .nopUndoc | .sax | .sbx | .sha | .shx
  | .shy | .tas | .usbc => 0x00

/-- The result byte of a read-modify-write instruction on its operand in memory. -/
def Form.rmwResult (f : Form) (s : State) : Byte := f.name.modify (f.rmwOperand s) s.cpu.p

/-! ### The bus cycles of an instruction -/

/-- Whether an undocumented mnemonic has no meaning under `emulate_stable` (rule R283): the rows marked "no", JAM, and
ARR in decimal. -/
def Mnemonic.unstable (n : Mnemonic) (s : State) : Bool :=
  match n with
  | .ane | .lxa | .sha | .shx | .shy | .tas | .jam => true
  | .arr => decide (s.par.decimalMode = .nmosBcd) && s.cpu.p.d
  | .adc | .and | .asl | .bcc | .bcs | .beq | .bit | .bmi | .bne | .bpl | .brk | .bvc | .bvs | .clc | .cld | .cli
  | .clv | .cmp | .cpx | .cpy | .dec | .dex | .dey | .eor | .inc | .inx | .iny | .jmp | .jsr | .lda | .ldx | .ldy
  | .lsr | .nop | .ora | .pha | .php | .pla | .plp | .rol | .ror | .rti | .rts | .sbc | .sec | .sed | .sei | .sta
  | .stx | .sty | .tax | .tay | .tsx | .txa | .txs | .tya | .alr | .anc | .dcp | .isc | .las | .lax | .nopUndoc
  | .rla | .rra | .sax | .sbx | .slo | .sre | .usbc => false

/-- The bus cycles of a mnemonic's own cycle list. -/
def Form.ownCycles (f : Form) (s : State) : List BusCycle :=
  match f.name with
  | .lda | .ldx | .ldy | .adc | .sbc | .and | .ora | .eor | .cmp | .cpx | .cpy | .bit | .lax | .las | .alr | .anc
  | .arr | .sbx | .usbc => f.readCycles s
  | .nopUndoc =>
    match f.mode with
    | .imp | .acc => impliedList s
    | .imm | .zp | .zpx | .zpy | .abs | .abx | .aby | .izx | .izy | .rel | .ind => f.readCycles s
  | .sta => f.writeCycles s.cpu.a s
  | .stx => f.writeCycles s.cpu.x s
  | .sty => f.writeCycles s.cpu.y s
  | .sax => f.writeCycles (s.cpu.a &&& s.cpu.x) s
  | .asl | .lsr | .rol | .ror =>
    match f.mode with
    | .imp | .acc => impliedList s
    | .imm | .zp | .zpx | .zpy | .abs | .abx | .aby | .izx | .izy | .rel | .ind => f.rmwCycles (f.rmwResult s) s
  | .inc | .dec | .slo | .rla | .sre | .rra | .dcp | .isc => f.rmwCycles (f.rmwResult s) s
  | .tax | .tay | .txa | .tya | .tsx | .txs | .inx | .iny | .dex | .dey | .clc | .sec | .cli | .sei | .cld | .sed
  | .clv | .nop => impliedList s
  | .bcc => branchCycles (!s.cpu.p.c) f.b1 s
  | .bcs => branchCycles s.cpu.p.c f.b1 s
  | .beq => branchCycles s.cpu.p.z f.b1 s
  | .bne => branchCycles (!s.cpu.p.z) f.b1 s
  | .bmi => branchCycles s.cpu.p.n f.b1 s
  | .bpl => branchCycles (!s.cpu.p.n) f.b1 s
  | .bvc => branchCycles (!s.cpu.p.v) f.b1 s
  | .bvs => branchCycles s.cpu.p.v f.b1 s
  | .jmp =>
    match f.mode with
    | .ind => fetches 3 s.cpu.pc ++ [.read (word f.b2 f.b1), .read (word f.b2 (f.b1 + 1))]
    | .imp | .acc | .imm | .zp | .zpx | .zpy | .abs | .abx | .aby | .izx | .izy | .rel => fetches 3 s.cpu.pc
  | .jsr =>
    fetches 2 s.cpu.pc ++
      [.read (stackByte s.cpu.sp), .write (stackByte s.cpu.sp) (hiByte (s.cpu.pc + 2)),
       .write (stackByte (s.cpu.sp - 1)) (loByte (s.cpu.pc + 2)), .read (s.cpu.pc + 2)]
  | .rts =>
    impliedList s ++ pullCycles 2 s.cpu.sp ++
      [.read (word (busCycles (impliedList s ++ pullCycles 2 s.cpu.sp) s).dbus
                   (busCycles (impliedList s ++ pullCycles 1 s.cpu.sp) s).dbus)]
  | .pha => impliedList s ++ [.write (stackByte s.cpu.sp) s.cpu.a]
  | .php => impliedList s ++ [.write (stackByte s.cpu.sp) (statusByte s.cpu.p)]
  | .pla | .plp => impliedList s ++ pullCycles 1 s.cpu.sp
  | .rti => impliedList s ++ pullCycles 3 s.cpu.sp
  | .brk =>
    fetches 2 s.cpu.pc ++
      [.write (stackByte s.cpu.sp) (hiByte (s.cpu.pc + 2)),
       .write (stackByte (s.cpu.sp - 1)) (loByte (s.cpu.pc + 2)),
       .write (stackByte (s.cpu.sp - 2)) (statusByte s.cpu.p), .read 0xFFFE, .read 0xFFFF]
  | .ane | .lxa | .sha | .shx | .shy | .tas | .jam => []

end Sys2Proof.Machine

namespace Sys2Proof

open Machine

/-- Whether the machine faults on the instruction instead of executing it (rules R280, R283). -/
def Instr.unsupported (i : Instr) (s : State) : Bool :=
  !i.form.name.documented &&
    match s.par.illegalPolicy with
    | .fault => true
    | .nop => false
    | .emulateStable => i.form.name.unstable s

/-- The bus cycles of an instruction, none where the machine faults on it (rules R280, R282, R283). -/
def Instr.cycleList (i : Instr) (s : State) : List BusCycle :=
  if i.unsupported s then []
  else if !i.form.name.documented && decide (s.par.illegalPolicy = .nop) then nopCycles i.form s
  else i.form.ownCycles s

/-- The instruction is one of the given rows of the opcode table (opcode byte, mode, documented cycles), and its bytes
are that opcode byte followed by its operand bytes (rules R140, R141, R143, R145). -/
def Instr.IsRow (i : Instr) (rows : List (Byte × Mode × Nat)) : Prop :=
  (i.form.op, i.form.mode, i.form.cycles) ∈ rows ∧ encode i = i.form.bytes

/-- The condition of a branch; false for every other instruction (rules R242 to R249). -/
def Instr.taken (i : Instr) (p : Flags) : Bool :=
  match i.form.name with
  | .bcc => !p.c
  | .bcs => p.c
  | .beq => p.z
  | .bne => !p.z
  | .bmi => p.n
  | .bpl => !p.n
  | .bvc => !p.v
  | .bvs => p.v
  | .adc | .and | .asl | .bit | .brk | .clc | .cld | .cli | .clv | .cmp | .cpx | .cpy | .dec | .dex | .dey | .eor
  | .inc | .inx | .iny | .jmp | .jsr | .lda | .ldx | .ldy | .lsr | .nop | .ora | .pha | .php | .pla | .plp | .rol
  | .ror | .rti | .rts | .sbc | .sec | .sed | .sei | .sta | .stx | .sty | .tax | .tay | .tsx | .txa | .txs | .tya
  | .alr | .anc | .ane | .arr | .dcp | .isc | .jam | .las | .lax | .lxa | .nopUndoc | .rla | .rra | .sax | .sbx
  | .sha | .shx | .shy | .slo | .sre | .tas | .usbc => false

/-- The adjustment of the cycle cost of a documented instruction: `+p` for an indexed read that crosses a page, `+b`
for a branch that is taken and one more where it goes to another page (rules R145, R158). -/
def Instr.penalty (i : Instr) (s : State) : Nat :=
  let next := s.cpu.pc + 2
  match i.form.name with
  | .lda | .ldx | .ldy | .adc | .sbc | .and | .ora | .eor | .cmp | .cpx | .cpy | .bit => (i.form.crosses s).toNat
  | .bcc | .bcs | .beq | .bne | .bmi | .bpl | .bvc | .bvs =>
    if i.taken s.cpu.p then
      1 + (decide (hiByte (next + sext i.form.b1) ≠ hiByte next)).toNat
    else 0
  | .asl | .brk | .clc | .cld | .cli | .clv | .dec | .dex | .dey | .inc | .inx | .iny | .jmp | .jsr | .lsr | .nop
  | .pha | .php | .pla | .plp | .rol | .ror | .rti | .rts | .sec | .sed | .sei | .sta | .stx | .sty | .tax | .tay
  | .tsx | .txa | .txs | .tya | .alr | .anc | .ane | .arr | .dcp | .isc | .jam | .las | .lax | .lxa | .nopUndoc
  | .rla | .rra | .sax | .sbx | .sha | .shx | .shy | .slo | .sre | .tas | .usbc => 0

end Sys2Proof

namespace Sys2Proof.Machine

/-! ### Flags and chips -/

/-- `SetNZ(v)` (rule R11). -/
def withNZ (p : Flags) (v : Byte) : Flags := { p with n := v.getLsbD 7, z := decide (v = 0x00) }

/-- The TIA after `n` chip-cycles, without what it puts out (rule R365). -/
def runTia (par : Params) (inp : Inputs) : Nat → Tia → Tia
  | 0, t => t
  | n + 1, t => runTia par inp n (tiaClock par inp t).1

/-- The RIOT after `n` ticks (rule R335). -/
def runRiot : Nat → Riot → Riot
  | 0, r => r
  | n + 1, r => runRiot n (riotTick r)

/-- The TIA with everything that its clock changes set to 0: what is left are the registers a program writes. -/
def Tia.registers (t : Tia) : Tia :=
  { t with
    beam := ⟨0, 0, false, false⟩
    cx := Collisions.clear
    latch := ⟨true, true⟩
    ch0 := { t.ch0 with adiv := 0, awave := waveReset }
    ch1 := { t.ch1 with adiv := 0, awave := waveReset } }

/-- Every latch set in the first is set in the second. -/
def Collisions.le (c d : Collisions) : Bool :=
  (!c.m0p1 || d.m0p1) && (!c.m0p0 || d.m0p0) && (!c.m1p0 || d.m1p0) && (!c.m1p1 || d.m1p1) && (!c.p0pf || d.p0pf) &&
  (!c.p0bl || d.p0bl) && (!c.p1pf || d.p1pf) && (!c.p1bl || d.p1bl) && (!c.m0pf || d.m0pf) && (!c.m0bl || d.m0bl) &&
  (!c.m1pf || d.m1pf) && (!c.m1bl || d.m1bl) && (!c.blpf || d.blpf) && (!c.p0p1 || d.p0p1) && (!c.m0m1 || d.m0m1)

/-! ### The invariant -/

/-- What holds of every state a run reaches (rule R37 and the ranges of rules R29, R33, R369, R372, R376 to R378). -/
structure Inv (s : State) : Prop where
  ramForm : Memory.wf s.ram = true
  ramRange : belowBound 128 s.ram = true
  cartRamForm : Memory.wf s.map.ram = true
  cartRamRange : belowBound 128 s.map.ram = true
  imageForm : Memory.wf s.map.rom = true
  imageRange : belowBound s.map.size.bytes s.map.rom = true
  fits : s.map.scheme.fits s.map.size = true
  banks : s.map.bank.valid s.map.scheme s.map.size = true
  /-- `cyc * 3` chip-cycles have passed since reset (rules R37, R373). -/
  inStep : s.tia.beam.hcount.val = 3 * s.cyc % 228
  /-- The CPU is held only inside a line (rule R372). -/
  heldInside : s.tia.beam.wsync = true → s.tia.beam.hcount ≠ 0
  /-- The input latches are released while they are off (rules R369, R415). -/
  latches : s.tia.sync.latchEn = false → s.tia.latch = ⟨true, true⟩
  nusiz0 : s.tia.p0.nusiz.getLsbD 3 = false
  nusiz1 : s.tia.p1.nusiz.getLsbD 3 = false
  ctrlpf : s.tia.pf.ctrlpf.getLsbD 3 = false
  colup0 : s.tia.p0.colup.getLsbD 0 = false
  colup1 : s.tia.p1.colup.getLsbD 0 = false
  colupf : s.tia.pf.colupf.getLsbD 0 = false
  colubk : s.tia.pf.colubk.getLsbD 0 = false
  /-- The tone generators run the machine's `Wave` (rule R446). -/
  wave0 : s.tia.ch0.awave.kind = s.par.wave
  wave1 : s.tia.ch1.awave.kind = s.par.wave

/-! ### What a program can observe -/

/-- The state without what no program can observe: the cycle and scanline counters (rules R27, R311, R366), the output
history (rule R36), the vertical-sync bit (rule R367), the colours (rules R377, R410), the audio generators (rule
R440), and the parameters that only these use. -/
def observable (s : State) : State :=
  { s with
    cyc := 0
    out := []
    tia := { s.tia with
      beam := { s.tia.beam with line := 0 }
      sync := { s.tia.sync with vsync := false }
      p0 := { s.tia.p0 with colup := 0 }
      p1 := { s.tia.p1 with colup := 0 }
      pf := { s.tia.pf with colupf := 0, colubk := 0 }
      ch0 := Channel.reset waveReset
      ch1 := Channel.reset waveReset }
    par := { s.par with fbFirstLine := 0, fbLines := 0, audioPhaseA := 0, audioPhaseB := 0, wave := .default } }

end Sys2Proof.Machine
end

