-- ==== Sys2Proof/Certificates/Slice0/Obligations.lean ====
section
/-!
DEFINITION. The statements about the machine.  In the statements about an instruction `f` is its row of the opcode
table with its operand bytes, `busCycles l s` the state after the bus cycles `l`, `f.operand s` the operand byte of
class read, and `(u.setCpu c)` the state `u` with the registers `c`.
-/

open Sys2Proof Sys2Proof.Machine

/-! ### Encoding -/

/-- Decode and encode agree, both ways and with any bytes behind (rules R140, R141, R143, R281, R285): no bit of an
encoding is dropped, every word has one meaning, the opcode byte alone decides the length, and a list of bytes is
rejected only where it ends before the instruction does. -/
def Obligations.DecodeAndEncodeAgree : Prop :=
  (∀ (i : Instr) (rest : List Byte), i.wellFormed = true → decode (encode i ++ rest) = .ok (i, rest)) ∧
  (∀ (bytes rest : List Byte) (i : Instr), decode bytes = .ok (i, rest) →
    i.wellFormed = true ∧ bytes = encode i ++ rest) ∧
  (∀ (op : Byte) (rest : List Byte),
    (∃ e, decode (op :: rest) = .error e) ↔ rest.length + 1 < lengthOf op) ∧
  (∀ i : Instr, i.wellFormed = true →
    encode i = i.form.bytes ∧ (encode i).length = i.form.length ∧ lengthOf i.form.op = i.form.length)

/-- One word of each family, written out from tables E-2 and U-1 (rules R143, R281). -/
def Obligations.WrittenWordsDecode : Prop :=
  decodeTableWord 16 0x80A5 = some (.ldaZp 0x80) ∧
  decodeTableWord 24 0xF234BD = some (.ldaAbsX 0x34 0xF2) ∧
  decodeTableWord 16 0x1091 = some (.staIzY 0x10) ∧
  decodeTableWord 8 0xAA = some .tax ∧
  decodeTableWord 16 0x1069 = some (.adcImm 0x10) ∧
  decodeTableWord 16 0x20F6 = some (.incZpX 0x20) ∧
  decodeTableWord 8 0x6A = some .rorAcc ∧
  decodeTableWord 16 0xFED0 = some (.bne 0xFE) ∧
  decodeTableWord 24 0xF00020 = some (.jsr 0x00 0xF0) ∧
  decodeTableWord 24 0x00806C = some (.jmpInd 0x80 0x00) ∧
  decodeTableWord 8 0x00 = some .brk ∧
  decodeTableWord 8 0x92 = some (.jam 0x92) ∧
  decodeTableWord 16 0x40C3 = some (.dcpIzX 0x40)

/-! ### The step -/

/-- A step runs the decoded instruction (rules R52, R61, R146): where the bytes that the bus gives at the program
counter decode to an instruction, the step is that instruction's meaning, under the input snapshot of the step. -/
def Obligations.StepRunsTheDecodedInstruction : Prop :=
  ∀ (s : State) (i : Instr) (rest : List Byte), s.fault = none →
    decode (fetchBytes (takeInputs s)) = .ok (i, rest) →
    i.wellFormed = true ∧ step s = exec i (takeInputs s)

/-- What the bus gives at the program counter (rules R66, R79, R106, R107, R258): from RAM its bytes as they are now,
from a cartridge of a plain scheme the bytes of the image; the third byte of a JSR in RAM is the byte that is there
after its two pushes. -/
def Obligations.FetchReadsRamAndImage : Prop :=
  ∀ (s : State) (op b1 b2 : Byte), fetchBytes s = [op, b1, b2] →
    (∀ k, decodeBus (busAddr s.cpu.pc) = .ram k → op = readCell s.ram k.toNat) ∧
    (∀ k, decodeBus (busAddr (s.cpu.pc + 1)) = .ram k → b1 = readCell s.ram k.toNat) ∧
    (∀ k, decodeBus (busAddr (s.cpu.pc + 2)) = .ram k →
      (op ≠ 0x20 → b2 = readCell s.ram k.toNat) ∧
      (op = 0x20 →
        let pushes : List BusCycle :=
          [.read s.cpu.pc, .read (s.cpu.pc + 1), .read (word 0x01 s.cpu.sp),
           .write (word 0x01 s.cpu.sp) (hiByte (s.cpu.pc + 2)),
           .write (word 0x01 (s.cpu.sp - 1)) (loByte (s.cpu.pc + 2))]
        b2 = readCell (busCycles pushes s).ram k.toNat)) ∧
    (s.map.scheme = .plain2k ∨ s.map.scheme = .plain4k →
      ∀ off, (decodeBus (busAddr s.cpu.pc) = .cartridge off → op = readCell s.map.rom (imageIndex s.map off)) ∧
        (decodeBus (busAddr (s.cpu.pc + 1)) = .cartridge off → b1 = readCell s.map.rom (imageIndex s.map off)) ∧
        (decodeBus (busAddr (s.cpu.pc + 2)) = .cartridge off → b2 = readCell s.map.rom (imageIndex s.map off)))

/-- The step is total (rules R61, R285, R301, R302): from every state without a fault record it answers a next state,
whatever the instruction, and from every other it answers the fault.  That an instruction which sets the record answers
a next state, and that the step after it answers the fault, is the model's choice (log entry 9): rules R280 and R302
say that the step is not taken. -/
def Obligations.StepIsTotal : Prop :=
  (∀ (i : Instr) (s : State), ∃ t, exec i s = .next t) ∧
  (∀ s : State, s.fault = none → ∃ t, step s = .next t) ∧
  (∀ (s : State) (r : UnsupportedOpcode), s.fault = some r → step s = .fault (.unsupportedOpcode r))

/-- The fault record (rules R35, R280, R283, R302, R307, R373): a step sets it only for an undocumented opcode that the
policy gives no meaning, or for an instruction one of whose bus cycles writes to RSYNC under the policy `fault`; it then
holds the opcode and its address, and nothing else of the state is touched but the input snapshot the step took.  That
the RSYNC write discards the whole step, and that the snapshot stays taken, is the model's choice (log entries 6 and
9). -/
def Obligations.FaultLeavesThePriorState : Prop :=
  ∀ (s t : State) (r : UnsupportedOpcode), s.fault = none → step s = .next t → t.fault = some r →
    let u := takeInputs s
    let i := fetchInstr u
    t = { u with fault := some r } ∧ r.op = i.form.op ∧ r.pc = s.cpu.pc ∧
    (i.unsupported u = true ∨ s.par.rsyncPolicy = .fault ∧ writesRsync (i.cycleList u) = true)

/-- What no step changes (rules R7, R33): the parameters and the cartridge's image, size and scheme; and the input
snapshot of a step is the next one the host has ready, or the one before.  That the snapshots wait in a queue of the
state, and that the one in force stays where the queue is empty, is the model's choice (log entry 4): rule R52 has a
snapshot supplied to each step. -/
def Obligations.StepKeepsCartridgeAndParameters : Prop :=
  ∀ s t : State, step s = .next t →
    t.par = s.par ∧ t.map.rom = s.map.rom ∧ t.map.size = s.map.size ∧ t.map.scheme = s.map.scheme ∧
    t.inp = s.pending.head?.getD s.inp ∧ t.pending = s.pending.tail

/-! ### Reset and the invariant -/

/-- `Reset()` (rules R53 table S-5, R104, R121, R344, R418, R448, R460): every field after it, for every state before it
and every value of the parameters; and the machine right after reset is the one `Reset()` leaves.  The start banks are
the host's, or where it names none the defaults of rule R104.  That `dbus` is the high byte of the vector (rule R460;
table S-5 lists 0) is log entry 8; that the output history starts anew, that the input snapshots stay, and the image
and parameters of `State.reset` are the model's choices (log entries 3, 4, 5 and 7). -/
def Obligations.ResetGivesTheStatedState : Prop :=
  (∀ s : State,
    let t := hostReset s
    let p := s.par
    t.cpu.a = p.resetA ∧ t.cpu.x = p.resetX ∧ t.cpu.y = p.resetY ∧ t.cpu.sp = p.resetS ∧
    t.cpu.p = ⟨p.resetN, p.resetV, p.resetD, true, p.resetZ, p.resetC⟩ ∧
    t.cyc = 0 ∧ t.ram = p.resetRam ∧ t.fault = none ∧
    t.riot = ⟨p.resetTimer, p.resetInterval, 0, false⟩ ∧
    t.tia = Tia.reset (waveInit p.wave) ∧
    t.par = p ∧ t.map.rom = s.map.rom ∧ t.map.size = s.map.size ∧ t.map.scheme = s.map.scheme ∧
    t.map.ram = s.map.ram ∧
    (∀ b, p.startBank = some b → t.map.bank = b) ∧
    (p.startBank = none → s.map.scheme = .e0 → t.map.bank = ⟨4, 5, 6⟩) ∧
    (p.startBank = none → s.map.scheme ≠ .e0 → t.map.bank = ⟨0, 0, 0⟩) ∧
    t.dbus = readCell s.map.rom (imageIndex t.map 0xFFD) ∧
    t.cpu.pc = t.dbus ++ readCell s.map.rom (imageIndex t.map 0xFFC) ∧
    t.inp = s.inp ∧ t.pending = s.pending ∧ t.out = []) ∧
  hostReset State.reset = State.reset

/-- The invariant holds after every `Reset()` (rules R29, R33, R37, R122, R460) of a state whose parameters are
admissible, whose scheme fits its image and whose image and cartridge RAM are stores of their range; so it does after
every load, and at `State.reset`, whose image and parameters are the model's choices (log entries 3 and 7). -/
def Obligations.InvariantHoldsAtReset : Prop :=
  (∀ s : State, s.par.wellFormed s.map.scheme s.map.size = true → s.map.scheme.fits s.map.size = true →
    Memory.wf s.map.rom = true → belowBound s.map.size.bytes s.map.rom = true →
    Memory.wf s.map.ram = true → belowBound 128 s.map.ram = true → Inv (hostReset s)) ∧
  (∀ (par : Params) (scheme : Option Scheme) (image : List Byte) (inp : Inputs) (s : State),
    load par scheme image inp = .ok s → Inv s) ∧
  Inv State.reset

/-- Every step keeps the invariant (rules R29, R33, R37, R122, R369, R372, R373, R376 to R378, R446): the stores keep
their canonical form and their range, the bank indexes stay valid, the beam stays in step with the cycle counter, a held
CPU is inside a line, the input latches are released while off, the unused register bits stay 0, and the tone generators
keep running the machine's `Wave`. -/
def Obligations.StepKeepsTheInvariant : Prop :=
  ∀ s t : State, Inv s → step s = .next t → Inv t

/-! ### The bus -/

/-- The address decoder (rules R64, R65 table M-1, R67 to R69): addresses that differ only in bits 15..13 are one
location, for reads and writes; on the other thirteen, A12, then A7, then A9 select the target, and each target uses
the bits the table gives it. -/
def Obligations.BusDecodesThirteenBits : Prop :=
  (∀ (a b : Word) (s : State), a.setWidth 13 = b.setWidth 13 →
    rd a s = rd b s ∧ ∀ v : Byte, wr a v s = wr b v s) ∧
  (∀ a : Word,
    (a.getLsbD 12 = true → decodeBus (busAddr a) = .cartridge (BitVec.ofNat 12 (a.toNat % 4096))) ∧
    (a.getLsbD 12 = false → a.getLsbD 7 = false → decodeBus (busAddr a) = .tia (BitVec.ofNat 6 (a.toNat % 64))) ∧
    (a.getLsbD 12 = false → a.getLsbD 7 = true → a.getLsbD 9 = false →
      decodeBus (busAddr a) = .ram (BitVec.ofNat 7 (a.toNat % 128))) ∧
    (a.getLsbD 12 = false → a.getLsbD 7 = true → a.getLsbD 9 = true →
      decodeBus (busAddr a) = .riot (BitVec.ofNat 5 (a.toNat % 32))))

/-- RAM (rule R66): a read returns the byte, a write stores it and touches no other byte, and the 128 bytes appear at
each of the eight places; a zero-page address and a stack address are the same byte when they agree in bits 6..0. -/
def Obligations.RamReadsWhatWasWritten : Prop :=
  (∀ (s : State) (addr : Word) (k : BitVec 7), decodeBus (busAddr addr) = .ram k →
    (rd addr s).1 = readCell s.ram k.toNat ∧
    (Memory.wf s.ram = true → ∀ (v : Byte) (j : BitVec 7),
      readCell (wr addr v s).ram j.toNat = if j = k then v else readCell s.ram j.toNat)) ∧
  (∀ k : BitVec 7, ∀ base ∈ [0x0080, 0x0180, 0x0480, 0x0580, 0x0880, 0x0980, 0x0C80, 0x0D80],
    decodeBus (busAddr (BitVec.ofNat 16 (base + k.toNat))) = .ram k) ∧
  (∀ zp : Byte, 0x80 ≤ zp.toNat →
    decodeBus (busAddr (zext zp)) = .ram (BitVec.ofNat 7 zp.toNat) ∧
    decodeBus (busAddr (word 0x01 zp)) = .ram (BitVec.ofNat 7 zp.toNat)) ∧
  (∀ zp : Byte, zp.toNat < 0x80 →
    decodeBus (busAddr (zext zp)) = .tia (BitVec.ofNat 6 zp.toNat) ∧
    decodeBus (busAddr (word 0x01 zp)) = .tia (BitVec.ofNat 6 zp.toNat))

/-- A bus cycle (rules R10, R61, R62): one CPU cycle, three chip-cycles and one RIOT tick, and then the access, which
sees the chips as they are after these; the bus keeps the byte.  A read is held first where the CPU is held (`hold`, the
subject of `WsyncHoldsReadsToTheNextLine`), a write is not. -/
def Obligations.BusCycleAdvancesThenAccesses : Prop :=
  ∀ (s : State) (addr : Word),
    (s.tia.beam.wsync = false → hold s = s) ∧
    (let h := hold s
      let t := runTia s.par s.inp 3 h.tia
      let r := (rd addr s).1
      let u := (rd addr s).2
      u.cyc = h.cyc + 1 ∧ u.tia = t ∧ u.dbus = r ∧ u.ram = s.ram ∧
      (match decodeBus (busAddr addr) with
       | .cartridge off => r = (mapRead off s.dbus s.map).1 ∧ u.map = (mapRead off s.dbus s.map).2 ∧
           u.riot = riotTick h.riot
       | .tia reg => r = tiaRead s.inp s.dbus t reg ∧ u.map = s.map ∧ u.riot = riotTick h.riot
       | .ram k => r = readCell s.ram k.toNat ∧ u.map = s.map ∧ u.riot = riotTick h.riot
       | .riot sel => r = (riotRead sel s.inp (riotTick h.riot)).1 ∧ u.map = s.map ∧
           u.riot = (riotRead sel s.inp (riotTick h.riot)).2)) ∧
    (∀ v : Byte,
      let t := runTia s.par s.inp 3 s.tia
      let u := wr addr v s
      u.cyc = s.cyc + 1 ∧ u.dbus = v ∧
      (match decodeBus (busAddr addr) with
       | .cartridge off => u.map = mapWrite off v s.map ∧ u.tia = t ∧ u.riot = riotTick s.riot ∧ u.ram = s.ram
       | .tia reg => u.tia = tiaStore s.par.hmoveBlankMax reg v t ∧ u.riot = riotTick s.riot ∧ u.ram = s.ram
       | .ram k => u.ram = writeCell s.ram k.toNat v ∧ u.tia = t ∧ u.riot = riotTick s.riot
       | .riot sel => u.riot = riotWrite sel v (riotTick s.riot) ∧ u.tia = t ∧ u.ram = s.ram))

/-- WSYNC (rules R62, R315, R372, R475): a read made while the CPU is held at `hcount = 3n` costs `76 - n` cycles more
and happens at `hcount = 3` of the next line, the RIOT counting on; a write is not held; and a write to WSYNC holds
the CPU unless the line has just begun. -/
def Obligations.WsyncHoldsReadsToTheNextLine : Prop :=
  (∀ (s : State) (addr : Word) (n : Nat), s.tia.beam.wsync = true → s.tia.beam.hcount.val = 3 * n → n ≤ 75 →
    let u := (rd addr s).2
    u.cyc = s.cyc + (76 - n) + 1 ∧ u.tia.beam.hcount.val = 3 ∧ u.tia.beam.wsync = false ∧
    u.tia.beam.line = s.tia.beam.line + 1 ∧ u.riot.sub = s.riot.sub + BitVec.ofNat 10 (77 - n)) ∧
  (∀ (s : State) (addr : Word) (v : Byte), decodeBus (busAddr addr) = .tia 0x02 →
    let t := runTia s.par s.inp 3 s.tia
    (wr addr v s).tia.beam.wsync = (t.beam.wsync || decide (t.beam.hcount ≠ 0)) ∧
    (wr addr v s).tia.beam.hcount = t.beam.hcount)

/-! ### The cartridge -/

/-- The plain schemes, the hot-spot schemes `F8`, `F6`, `F4`, `EF`, and `E0` with its four sub-windows (rules R106 to
R111, R115): an access to a hot-spot, read or write, selects the bank or slice first; then a read returns the byte of
that bank or slice, and a write stores nothing. -/
def Obligations.HotSpotsSelectTheBank : Prop :=
  ∀ (s : State) (addr : Word) (off : BitVec 12), decodeBus (busAddr addr) = .cartridge off →
    (s.map.scheme = .plain2k →
      (rd addr s).1 = readCell s.map.rom (off.toNat % 0x800) ∧ (rd addr s).2.map = s.map ∧
      ∀ v, (wr addr v s).map = s.map) ∧
    (s.map.scheme = .plain4k →
      (rd addr s).1 = readCell s.map.rom off.toNat ∧ (rd addr s).2.map = s.map ∧
      ∀ v, (wr addr v s).map = s.map) ∧
    (∀ row ∈ [(Scheme.f8, 0xFF8, 0xFF9), (.f6, 0xFF6, 0xFF9), (.f4, 0xFF4, 0xFFB), (.ef, 0xFE0, 0xFEF)],
      s.map.scheme = row.1 →
      let b := if row.2.1 ≤ off.toNat ∧ off.toNat ≤ row.2.2 then off.toNat - row.2.1 else s.map.bank.w0
      (rd addr s).1 = readCell s.map.rom (b * 4096 + off.toNat) ∧
      (rd addr s).2.map = { s.map with bank := { s.map.bank with w0 := b } } ∧
      ∀ v, (wr addr v s).map = { s.map with bank := { s.map.bank with w0 := b } }) ∧
    (s.map.scheme = .e0 →
      let n := off.toNat
      let b : Banks :=
        ⟨if 0xFE0 ≤ n ∧ n ≤ 0xFE7 then n % 8 else s.map.bank.w0,
         if 0xFE8 ≤ n ∧ n ≤ 0xFEF then n % 8 else s.map.bank.w1,
         if 0xFF0 ≤ n ∧ n ≤ 0xFF7 then n % 8 else s.map.bank.w2⟩
      (rd addr s).2.map = { s.map with bank := b } ∧ (∀ v, (wr addr v s).map = { s.map with bank := b }) ∧
      (n / 1024 = 0 → (rd addr s).1 = readCell s.map.rom (b.w0 * 1024 + n % 1024)) ∧
      (n / 1024 = 1 → (rd addr s).1 = readCell s.map.rom (b.w1 * 1024 + n % 1024)) ∧
      (n / 1024 = 2 → (rd addr s).1 = readCell s.map.rom (b.w2 * 1024 + n % 1024)) ∧
      (n / 1024 = 3 → (rd addr s).1 = readCell s.map.rom (7 * 1024 + n % 1024)))

/-- The SC schemes and the trigger of scheme `3F` (rules R112, R118): an access to a hot-spot, read or write, selects
the bank as in the base scheme, and a read from offset `0x100` on returns the byte of that bank; the write port stores,
the read port returns what it stored, a read of the write port stores the value on the bus; and a write to bus `0x0000`
to `0x003F` selects the lower bank of scheme `3F` while it also reaches the TIA. -/
def Obligations.CartridgeRamAndBusTrigger : Prop :=
  (∀ (s : State) (addr : Word) (off : BitVec 12), decodeBus (busAddr addr) = .cartridge off →
    s.map.scheme = .f8sc ∨ s.map.scheme = .f6sc ∨ s.map.scheme = .f4sc → Memory.wf s.map.ram = true →
    (∀ row ∈ [(Scheme.f8sc, 0xFF8, 0xFF9), (.f6sc, 0xFF6, 0xFF9), (.f4sc, 0xFF4, 0xFFB)], s.map.scheme = row.1 →
      let b := if row.2.1 ≤ off.toNat ∧ off.toNat ≤ row.2.2 then off.toNat - row.2.1 else s.map.bank.w0
      (rd addr s).2.map.bank = { s.map.bank with w0 := b } ∧
      (∀ v, (wr addr v s).map.bank = { s.map.bank with w0 := b }) ∧
      (0x100 ≤ off.toNat → (rd addr s).1 = readCell s.map.rom (b * 4096 + off.toNat))) ∧
    (∀ v, off.toNat < 0x80 →
      ∀ k, readCell (wr addr v s).map.ram k = if k = off.toNat then v else readCell s.map.ram k) ∧
    (∀ v, 0x80 ≤ off.toNat → (wr addr v s).map.ram = s.map.ram) ∧
    (off.toNat < 0x80 → (rd addr s).1 = s.dbus ∧
      ∀ k, readCell (rd addr s).2.map.ram k = if k = off.toNat then s.dbus else readCell s.map.ram k) ∧
    (0x80 ≤ off.toNat → off.toNat < 0x100 →
      (rd addr s).1 = readCell s.map.ram (off.toNat - 0x80) ∧ (rd addr s).2.map = s.map) ∧
    (0x100 ≤ off.toNat → (rd addr s).2.map.ram = s.map.ram)) ∧
  (∀ (s : State) (addr : Word) (v : Byte), s.map.scheme = .s3f →
    let n := s.map.size.bytes / 2048
    (wr addr v s).map.bank.w0 = (if (busAddr addr).toNat ≤ 0x3F then v.toNat % n else s.map.bank.w0) ∧
    ((busAddr addr).toNat ≤ 0x3F →
      (wr addr v s).tia =
        tiaStore s.par.hmoveBlankMax (BitVec.ofNat 6 (busAddr addr).toNat) v (runTia s.par s.inp 3 s.tia)) ∧
    ∀ off, decodeBus (busAddr addr) = .cartridge off →
      (rd addr s).2.map = s.map ∧
      (rd addr s).1 =
        readCell s.map.rom ((if off.toNat < 0x800 then s.map.bank.w0 else n - 1) * 2048 + off.toNat % 2048))

/-- A bank index is always a valid index into the image (rules R33, R37, R122): after any access the banks are banks of
the image, and the byte a read of the window looks at lies inside it. -/
def Obligations.MapperStaysInsideTheImage : Prop :=
  ∀ m : Mapper, m.scheme.fits m.size = true → m.bank.valid m.scheme m.size = true →
    (∀ off, imageIndex m off < m.size.bytes) ∧
    (∀ off d, (mapRead off d m).2.bank.valid m.scheme m.size = true) ∧
    (∀ off v, (mapWrite off v m).bank.valid m.scheme m.size = true) ∧
    (∀ kind a v, (snoop kind a v m).bank.valid m.scheme m.size = true)

/-! ### Operands and addresses -/

/-- The effective addresses and the operand byte of class read (rules R142, R148 to R157): a zero-page sum wraps inside
page 0, an absolute sum modulo 65536, and both bytes of a zero-page pointer come from page 0; the operand is the byte of
the instruction in mode `imm`, and the byte at the effective address in the other read modes, here of RAM and of a
plain 4 KiB image. -/
def Obligations.OperandsByAddressingMode : Prop :=
  ∀ (f : Form) (s : State),
    (f.mode = .zp → f.effAddr s = zext f.b1) ∧
    (f.mode = .zpx → f.effAddr s = BitVec.ofNat 16 ((f.b1.toNat + s.cpu.x.toNat) % 256)) ∧
    (f.mode = .zpy → f.effAddr s = BitVec.ofNat 16 ((f.b1.toNat + s.cpu.y.toNat) % 256)) ∧
    (f.mode = .abs → f.effAddr s = BitVec.ofNat 16 (f.b2.toNat * 256 + f.b1.toNat)) ∧
    (f.mode = .abx → f.effAddr s = BitVec.ofNat 16 (f.b2.toNat * 256 + f.b1.toNat + s.cpu.x.toNat)) ∧
    (f.mode = .aby → f.effAddr s = BitVec.ofNat 16 (f.b2.toNat * 256 + f.b1.toNat + s.cpu.y.toNat)) ∧
    (f.mode = .izx → ∀ j k : BitVec 7,
      decodeBus (busAddr (BitVec.ofNat 16 ((f.b1.toNat + s.cpu.x.toNat) % 256))) = .ram j →
      decodeBus (busAddr (BitVec.ofNat 16 ((f.b1.toNat + s.cpu.x.toNat + 1) % 256))) = .ram k →
      f.effAddr s = readCell s.ram k.toNat ++ readCell s.ram j.toNat) ∧
    (f.mode = .izy → ∀ j k : BitVec 7,
      decodeBus (busAddr (zext f.b1)) = .ram j →
      decodeBus (busAddr (BitVec.ofNat 16 ((f.b1.toNat + 1) % 256))) = .ram k →
      f.effAddr s = (readCell s.ram k.toNat ++ readCell s.ram j.toNat) + zext s.cpu.y) ∧
    (f.mode = .imm → f.operand s = f.b1) ∧
    (f.mode ∈ [Mode.zp, .zpx, .zpy, .abs, .abx, .aby, .izx, .izy] →
      (∀ k, decodeBus (busAddr (f.effAddr s)) = .ram k → f.operand s = readCell s.ram k.toNat) ∧
      (∀ off, s.map.scheme = .plain4k → decodeBus (busAddr (f.effAddr s)) = .cartridge off →
        f.operand s = readCell s.map.rom off.toNat))

/-! ### Loads, stores, transfers, the stack -/

/-- LDA, LDX, LDY in every mode (rules R171 to R173): the register takes the operand byte, N and Z follow it, and
nothing else changes but what the cycles of the mode do on the bus. -/
def Obligations.LoadResult : Prop :=
  ∀ (i : Instr) (s : State), s.fault = none →
    let f := i.form
    let m := f.operand s
    let u := busCycles (f.readCycles s) s
    let cost := (f.readCycles s).length = f.cycles + (f.crosses s).toNat
    (f.name = .lda →
      i.IsRow [(0xA9, .imm, 2), (0xA5, .zp, 3), (0xB5, .zpx, 4), (0xAD, .abs, 4), (0xBD, .abx, 4), (0xB9, .aby, 4),
               (0xA1, .izx, 6), (0xB1, .izy, 5)] ∧ cost ∧
      exec i s = .next (u.setCpu { s.cpu with a := m, pc := f.nextPc s, p := withNZ s.cpu.p m })) ∧
    (f.name = .ldx →
      i.IsRow [(0xA2, .imm, 2), (0xA6, .zp, 3), (0xB6, .zpy, 4), (0xAE, .abs, 4), (0xBE, .aby, 4)] ∧ cost ∧
      exec i s = .next (u.setCpu { s.cpu with x := m, pc := f.nextPc s, p := withNZ s.cpu.p m })) ∧
    (f.name = .ldy →
      i.IsRow [(0xA0, .imm, 2), (0xA4, .zp, 3), (0xB4, .zpx, 4), (0xAC, .abs, 4), (0xBC, .abx, 4)] ∧ cost ∧
      exec i s = .next (u.setCpu { s.cpu with y := m, pc := f.nextPc s, p := withNZ s.cpu.p m }))

/-- STA, STX, STY in every mode (rules R174 to R176): the last cycle writes the register at the effective address; no
register and no flag changes.  A store that writes RSYNC where the machine faults on it is the subject of
`RsyncWriteFaults`. -/
def Obligations.StoreResult : Prop :=
  ∀ (i : Instr) (s : State) (v : Byte), s.fault = none →
    let f := i.form
    (f.name = .sta ∧ v = s.cpu.a ∨ f.name = .stx ∧ v = s.cpu.x ∨ f.name = .sty ∧ v = s.cpu.y) →
    let l := f.writeCycles v s
    (f.name = .sta →
      i.IsRow [(0x85, .zp, 3), (0x95, .zpx, 4), (0x8D, .abs, 4), (0x9D, .abx, 5), (0x99, .aby, 5), (0x81, .izx, 6),
               (0x91, .izy, 6)]) ∧
    (f.name = .stx → i.IsRow [(0x86, .zp, 3), (0x96, .zpy, 4), (0x8E, .abs, 4)]) ∧
    (f.name = .sty → i.IsRow [(0x84, .zp, 3), (0x94, .zpx, 4), (0x8C, .abs, 4)]) ∧
    l.length = f.cycles ∧ l.getLast? = some (.write (f.effAddr s) v) ∧
    (Quiet l s → exec i s = .next ((busCycles l s).setCpu { s.cpu with pc := f.nextPc s }))

/-- TAX, TAY, TXA, TYA, TSX and TXS (rules R177 to R182): the copy, with N and Z of the copied byte but for TXS. -/
def Obligations.TransferResult : Prop :=
  ∀ s : State, s.fault = none →
    let u := busCycles [.read s.cpu.pc, .read (s.cpu.pc + 1)] s
    let c := { s.cpu with pc := s.cpu.pc + 1 }
    exec .tax s = .next (u.setCpu { c with x := s.cpu.a, p := withNZ s.cpu.p s.cpu.a }) ∧
    exec .tay s = .next (u.setCpu { c with y := s.cpu.a, p := withNZ s.cpu.p s.cpu.a }) ∧
    exec .txa s = .next (u.setCpu { c with a := s.cpu.x, p := withNZ s.cpu.p s.cpu.x }) ∧
    exec .tya s = .next (u.setCpu { c with a := s.cpu.y, p := withNZ s.cpu.p s.cpu.y }) ∧
    exec .tsx s = .next (u.setCpu { c with x := s.cpu.sp, p := withNZ s.cpu.p s.cpu.sp }) ∧
    exec .txs s = .next (u.setCpu { c with sp := s.cpu.x }) ∧
    encode .tax = [0xAA] ∧ encode .tay = [0xA8] ∧ encode .txa = [0x8A] ∧ encode .tya = [0x98] ∧
    encode .tsx = [0xBA] ∧ encode .txs = [0x9A]

/-- PHA, PHP, PLA, PLP (rules R24, R183 to R186): a push writes at the stack pointer and then decrements it, a pull
increments it and then reads; the pushed status byte is `N V 1 1 D I Z C`, and PLP takes the six flags from the byte
pulled. -/
def Obligations.StackResult : Prop :=
  (∀ s : State, s.fault = none →
    let lead : List BusCycle := [.read s.cpu.pc, .read (s.cpu.pc + 1)]
    let slot := BitVec.ofNat 16 (0x0100 + s.cpu.sp.toNat)
    let above := BitVec.ofNat 16 (0x0100 + (s.cpu.sp + 1).toNat)
    let pha := lead ++ [.write slot s.cpu.a]
    let php := lead ++ [.write slot (statusByte s.cpu.p)]
    let u := busCycles (lead ++ [.read slot, .read above]) s
    let m := u.dbus
    let c := { s.cpu with pc := s.cpu.pc + 1 }
    (Quiet pha s → exec .pha s = .next ((busCycles pha s).setCpu { c with sp := s.cpu.sp - 1 })) ∧
    (Quiet php s → exec .php s = .next ((busCycles php s).setCpu { c with sp := s.cpu.sp - 1 })) ∧
    exec .pla s = .next (u.setCpu { c with sp := s.cpu.sp + 1, a := m, p := withNZ s.cpu.p m }) ∧
    exec .plp s = .next (u.setCpu { c with
      sp := s.cpu.sp + 1
      p := ⟨m.getLsbD 7, m.getLsbD 6, m.getLsbD 3, m.getLsbD 2, m.getLsbD 1, m.getLsbD 0⟩ })) ∧
  (∀ p : Flags,
    let b := statusByte p
    b.getLsbD 7 = p.n ∧ b.getLsbD 6 = p.v ∧ b.getLsbD 5 = true ∧ b.getLsbD 4 = true ∧ b.getLsbD 3 = p.d ∧
    b.getLsbD 2 = p.i ∧ b.getLsbD 1 = p.z ∧ b.getLsbD 0 = p.c) ∧
  encode .pha = [0x48] ∧ encode .php = [0x08] ∧ encode .pla = [0x68] ∧ encode .plp = [0x28]

/-! ### Arithmetic, logic, compare, shift -/

/-- ADC and SBC in every mode, in binary (rules R201, R202): the nine-bit sum with the carry, for SBC of the complement
of the operand; V where the operands have equal signs and the result's differs.  This is what they do whatever `P.D`
holds where the machine ignores it, and with `P.D = 0` otherwise. -/
def Obligations.AddAndSubtractBinary : Prop :=
  ∀ (i : Instr) (s : State), s.fault = none → ¬(s.par.decimalMode = .nmosBcd ∧ s.cpu.p.d = true) →
    let f := i.form
    let m := f.operand s
    let u := busCycles (f.readCycles s) s
    let a := s.cpu.a
    let cost := (f.readCycles s).length = f.cycles + (f.crosses s).toNat
    (f.name = .adc →
      let sum := a.toNat + m.toNat + s.cpu.p.c.toNat
      let r := BitVec.ofNat 8 sum
      i.IsRow [(0x69, .imm, 2), (0x65, .zp, 3), (0x75, .zpx, 4), (0x6D, .abs, 4), (0x7D, .abx, 4), (0x79, .aby, 4),
               (0x61, .izx, 6), (0x71, .izy, 5)] ∧ cost ∧
      exec i s = .next (u.setCpu { s.cpu with
        a := r
        pc := f.nextPc s
        p := { withNZ s.cpu.p r with c := decide (256 ≤ sum), v := (~~~(a ^^^ m) &&& (a ^^^ r)).getLsbD 7 } })) ∧
    (f.name = .sbc →
      let sum := a.toNat + (m ^^^ 0xFF).toNat + s.cpu.p.c.toNat
      let r := BitVec.ofNat 8 sum
      i.IsRow [(0xE9, .imm, 2), (0xE5, .zp, 3), (0xF5, .zpx, 4), (0xED, .abs, 4), (0xFD, .abx, 4), (0xF9, .aby, 4),
               (0xE1, .izx, 6), (0xF1, .izy, 5)] ∧ cost ∧
      r = a - m - BitVec.ofNat 8 (1 - s.cpu.p.c.toNat) ∧
      (256 ≤ sum ↔ m.toNat + (1 - s.cpu.p.c.toNat) ≤ a.toNat) ∧
      exec i s = .next (u.setCpu { s.cpu with
        a := r
        pc := f.nextPc s
        p := { withNZ s.cpu.p r with c := decide (256 ≤ sum), v := ((a ^^^ m) &&& (a ^^^ r)).getLsbD 7 } }))

/-- V is the signed-overflow indicator of ADC and SBC (rule R221): it is set exactly where the sum or difference of the
signed values leaves the range of a signed byte; the result is right modulo 256. -/
def Obligations.OverflowIsSignedOverflow : Prop :=
  ∀ (i : Instr) (s t : State), s.fault = none → ¬(s.par.decimalMode = .nmosBcd ∧ s.cpu.p.d = true) →
    exec i s = .next t →
    let m := i.form.operand s
    let sum := s.cpu.a.toInt + m.toInt + (s.cpu.p.c.toNat : Int)
    let diff := s.cpu.a.toInt - m.toInt - (1 - (s.cpu.p.c.toNat : Int))
    (i.form.name = .adc → (t.cpu.p.v = true ↔ sum < -128 ∨ 127 < sum) ∧ t.cpu.a = BitVec.ofInt 8 sum) ∧
    (i.form.name = .sbc → (t.cpu.p.v = true ↔ diff < -128 ∨ 127 < diff) ∧ t.cpu.a = BitVec.ofInt 8 diff)

/-- ADC and SBC in decimal (rule R203): with `DECIMAL_MODE = nmos_bcd` and `P.D = 1`, digit by digit, as the rule's
listing says, Z of the binary sum included. -/
def Obligations.AddAndSubtractDecimal : Prop :=
  ∀ (i : Instr) (s : State), s.fault = none → s.par.decimalMode = .nmosBcd → s.cpu.p.d = true →
    let f := i.form
    let m := f.operand s
    let u := busCycles (f.readCycles s) s
    let a := s.cpu.a
    let c := s.cpu.p.c.toNat
    (f.name = .adc →
      let al := a.toNat % 16 + m.toNat % 16 + c
      let ah := a.toNat / 16 + m.toNat / 16 + if 9 < al then 1 else 0
      let al' := if 9 < al then al + 6 else al
      let ah' := if 9 < ah then ah + 6 else ah
      exec i s = .next (u.setCpu { s.cpu with
        a := BitVec.ofNat 8 (ah' % 16 * 16 + al' % 16)
        pc := f.nextPc s
        p := { s.cpu.p with
          z := decide ((a.toNat + m.toNat + c) % 256 = 0)
          n := decide (ah / 8 % 2 = 1)
          v := (BitVec.ofNat 8 (ah % 16 * 16) ^^^ a).getLsbD 7 && !(a ^^^ m).getLsbD 7
          c := decide (15 < ah') } })) ∧
    (f.name = .sbc →
      let sum := a.toNat + (m ^^^ 0xFF).toNat + c
      let r := BitVec.ofNat 8 sum
      let al : Int := (a.toNat % 16 : Nat) - (m.toNat % 16 : Nat) - (1 - (c : Int))
      let ah : Int := (a.toNat / 16 : Nat) - (m.toNat / 16 : Nat) - if al < 0 then 1 else 0
      let al' := if al < 0 then al - 6 else al
      let ah' := if ah < 0 then ah - 6 else ah
      exec i s = .next (u.setCpu { s.cpu with
        a := BitVec.ofInt 8 (ah' % 16 * 16 + al' % 16)
        pc := f.nextPc s
        p := { withNZ s.cpu.p r with c := decide (256 ≤ sum), v := ((a ^^^ m) &&& (a ^^^ r)).getLsbD 7 } }))

/-- For operands whose digits are decimal, ADC and SBC in decimal add and subtract decimal numbers, with C as the
decimal carry and no-borrow (rule R203). -/
def Obligations.DecimalModeIsDecimalArithmetic : Prop :=
  ∀ (i : Instr) (s t : State), s.fault = none → s.par.decimalMode = .nmosBcd → s.cpu.p.d = true →
    exec i s = .next t →
    let m := i.form.operand s
    let value : Byte → Nat := fun b => b.toNat / 16 * 10 + b.toNat % 16
    let proper : Byte → Prop := fun b => b.toNat / 16 ≤ 9 ∧ b.toNat % 16 ≤ 9
    proper s.cpu.a → proper m →
    (i.form.name = .adc →
      let sum := value s.cpu.a + value m + s.cpu.p.c.toNat
      proper t.cpu.a ∧ value t.cpu.a = sum % 100 ∧ t.cpu.p.c = decide (100 ≤ sum)) ∧
    (i.form.name = .sbc →
      let taken := value m + (1 - s.cpu.p.c.toNat)
      proper t.cpu.a ∧ value t.cpu.a = (value s.cpu.a + 100 - taken) % 100 ∧
      t.cpu.p.c = decide (taken ≤ value s.cpu.a))

/-- AND, ORA, EOR in every mode (rules R204 to R206). -/
def Obligations.LogicResult : Prop :=
  ∀ (i : Instr) (s : State), s.fault = none →
    let f := i.form
    let m := f.operand s
    let u := busCycles (f.readCycles s) s
    let cost := (f.readCycles s).length = f.cycles + (f.crosses s).toNat
    let result (r : Byte) := u.setCpu { s.cpu with a := r, pc := f.nextPc s, p := withNZ s.cpu.p r }
    (f.name = .and →
      i.IsRow [(0x29, .imm, 2), (0x25, .zp, 3), (0x35, .zpx, 4), (0x2D, .abs, 4), (0x3D, .abx, 4), (0x39, .aby, 4),
               (0x21, .izx, 6), (0x31, .izy, 5)] ∧ cost ∧
      exec i s = .next (result (s.cpu.a &&& m))) ∧
    (f.name = .ora →
      i.IsRow [(0x09, .imm, 2), (0x05, .zp, 3), (0x15, .zpx, 4), (0x0D, .abs, 4), (0x1D, .abx, 4), (0x19, .aby, 4),
               (0x01, .izx, 6), (0x11, .izy, 5)] ∧ cost ∧
      exec i s = .next (result (s.cpu.a ||| m))) ∧
    (f.name = .eor →
      i.IsRow [(0x49, .imm, 2), (0x45, .zp, 3), (0x55, .zpx, 4), (0x4D, .abs, 4), (0x5D, .abx, 4), (0x59, .aby, 4),
               (0x41, .izx, 6), (0x51, .izy, 5)] ∧ cost ∧
      exec i s = .next (result (s.cpu.a ^^^ m)))

/-- CMP, CPX, CPY and BIT in every mode (rules R207 to R210): only flags change; C is the unsigned "at least", N and V
of BIT are bits 7 and 6 of the operand. -/
def Obligations.CompareAndBitResult : Prop :=
  ∀ (i : Instr) (s : State), s.fault = none →
    let f := i.form
    let m := f.operand s
    let u := busCycles (f.readCycles s) s
    let cost := (f.readCycles s).length = f.cycles + (f.crosses s).toNat
    let flags (p : Flags) := u.setCpu { s.cpu with pc := f.nextPc s, p := p }
    let compared (r : Byte) := { withNZ s.cpu.p (r - m) with c := decide (m.toNat ≤ r.toNat) }
    (f.name = .cmp →
      i.IsRow [(0xC9, .imm, 2), (0xC5, .zp, 3), (0xD5, .zpx, 4), (0xCD, .abs, 4), (0xDD, .abx, 4), (0xD9, .aby, 4),
               (0xC1, .izx, 6), (0xD1, .izy, 5)] ∧ cost ∧
      exec i s = .next (flags (compared s.cpu.a))) ∧
    (f.name = .cpx →
      i.IsRow [(0xE0, .imm, 2), (0xE4, .zp, 3), (0xEC, .abs, 4)] ∧ cost ∧
      exec i s = .next (flags (compared s.cpu.x))) ∧
    (f.name = .cpy →
      i.IsRow [(0xC0, .imm, 2), (0xC4, .zp, 3), (0xCC, .abs, 4)] ∧ cost ∧
      exec i s = .next (flags (compared s.cpu.y))) ∧
    (f.name = .bit →
      i.IsRow [(0x24, .zp, 3), (0x2C, .abs, 4)] ∧ cost ∧
      exec i s = .next (flags
        { s.cpu.p with n := m.getLsbD 7, v := m.getLsbD 6, z := decide (s.cpu.a &&& m = 0x00) }))

/-- INC, DEC in every mode and INX, INY, DEX, DEY (rules R211 to R216): one up or down modulo 256, with N and Z of the
result; C and V stay.  In memory the byte is written unmodified first. -/
def Obligations.IncrementAndDecrementResult : Prop :=
  (∀ (i : Instr) (s : State), s.fault = none →
    let f := i.form
    let m := f.rmwOperand s
    let result (r : Byte) := (busCycles (f.rmwCycles r s) s).setCpu
      { s.cpu with pc := f.nextPc s, p := withNZ s.cpu.p r }
    (f.name = .inc →
      i.IsRow [(0xE6, .zp, 5), (0xF6, .zpx, 6), (0xEE, .abs, 6), (0xFE, .abx, 7)] ∧
      (f.rmwCycles (m + 1) s).length = f.cycles ∧
      (Quiet (f.rmwCycles (m + 1) s) s → exec i s = .next (result (m + 1)))) ∧
    (f.name = .dec →
      i.IsRow [(0xC6, .zp, 5), (0xD6, .zpx, 6), (0xCE, .abs, 6), (0xDE, .abx, 7)] ∧
      (f.rmwCycles (m - 1) s).length = f.cycles ∧
      (Quiet (f.rmwCycles (m - 1) s) s → exec i s = .next (result (m - 1))))) ∧
  (∀ s : State, s.fault = none →
    let u := busCycles [.read s.cpu.pc, .read (s.cpu.pc + 1)] s
    let c := { s.cpu with pc := s.cpu.pc + 1 }
    exec .inx s = .next (u.setCpu { c with x := s.cpu.x + 1, p := withNZ s.cpu.p (s.cpu.x + 1) }) ∧
    exec .iny s = .next (u.setCpu { c with y := s.cpu.y + 1, p := withNZ s.cpu.p (s.cpu.y + 1) }) ∧
    exec .dex s = .next (u.setCpu { c with x := s.cpu.x - 1, p := withNZ s.cpu.p (s.cpu.x - 1) }) ∧
    exec .dey s = .next (u.setCpu { c with y := s.cpu.y - 1, p := withNZ s.cpu.p (s.cpu.y - 1) }) ∧
    encode .inx = [0xE8] ∧ encode .iny = [0xC8] ∧ encode .dex = [0xCA] ∧ encode .dey = [0x88])

/-- ASL, LSR, ROL, ROR on A and in memory (rules R217 to R220): one place left or right, the bit shifted out into C,
the old C into the free place for the rotations.  A row is the mnemonic, the opcodes of its accumulator form and of its
memory forms, the result and the bit shifted out. -/
def Obligations.ShiftResult : Prop :=
  ∀ (i : Instr) (s : State), s.fault = none →
    let f := i.form
    let c := s.cpu.p.c.toNat
    let memory (zp zpx abs abx : Byte) : List (Byte × Mode × Nat) :=
      [(zp, .zp, 5), (zpx, .zpx, 6), (abs, .abs, 6), (abx, .abx, 7)]
    let rows : List (Mnemonic × Byte × List (Byte × Mode × Nat) × (Byte → Byte) × (Byte → Bool)) :=
      [(.asl, 0x0A, memory 0x06 0x16 0x0E 0x1E, fun v => BitVec.ofNat 8 (2 * v.toNat), fun v => v.getLsbD 7),
       (.lsr, 0x4A, memory 0x46 0x56 0x4E 0x5E, fun v => BitVec.ofNat 8 (v.toNat / 2), fun v => v.getLsbD 0),
       (.rol, 0x2A, memory 0x26 0x36 0x2E 0x3E, fun v => BitVec.ofNat 8 (2 * v.toNat + c), fun v => v.getLsbD 7),
       (.ror, 0x6A, memory 0x66 0x76 0x6E 0x7E, fun v => BitVec.ofNat 8 (v.toNat / 2 + 128 * c), fun v => v.getLsbD 0)]
    ∀ row ∈ rows, f.name = row.1 →
      let result := row.2.2.2.1
      let out := row.2.2.2.2
      let m := f.rmwOperand s
      let l := f.rmwCycles (result m) s
      (f.mode = .acc →
        i.IsRow [(row.2.1, .acc, 2)] ∧
        exec i s = .next ((busCycles [.read s.cpu.pc, .read (s.cpu.pc + 1)] s).setCpu
          { s.cpu with
            a := result s.cpu.a
            pc := s.cpu.pc + 1
            p := { withNZ s.cpu.p (result s.cpu.a) with c := out s.cpu.a } })) ∧
      (f.mode ≠ .acc →
        i.IsRow row.2.2.1 ∧ l.length = f.cycles ∧
        (Quiet l s → exec i s = .next ((busCycles l s).setCpu
          { s.cpu with pc := f.nextPc s, p := { withNZ s.cpu.p (result m) with c := out m } })))

/-! ### Control flow -/

/-- The eight branches (rules R158, R241 to R249): the displacement is added to the address of the next instruction; 2
cycles if not taken, 3 if taken, 4 if taken to another page; no register but PC and no flag changes. -/
def Obligations.BranchResult : Prop :=
  ∀ (s : State) (d : Byte), s.fault = none →
    let p := s.cpu.p
    let next := s.cpu.pc + 2
    let target := s.cpu.pc + BitVec.ofInt 16 (2 + d.toInt)
    ∀ row ∈ [(Instr.bcc d, (0x90 : Byte), !p.c), (.bcs d, 0xB0, p.c), (.beq d, 0xF0, p.z), (.bne d, 0xD0, !p.z),
             (.bmi d, 0x30, p.n), (.bpl d, 0x10, !p.n), (.bvc d, 0x50, !p.v), (.bvs d, 0x70, p.v)],
      encode row.1 = [row.2.1, d] ∧
      (row.2.2 = false →
        exec row.1 s = .next ((busCycles [.read s.cpu.pc, .read (s.cpu.pc + 1)] s).setCpu
          { s.cpu with pc := next })) ∧
      (row.2.2 = true → hiByte target = hiByte next →
        exec row.1 s = .next ((busCycles [.read s.cpu.pc, .read (s.cpu.pc + 1), .read next] s).setCpu
          { s.cpu with pc := target })) ∧
      (row.2.2 = true → hiByte target ≠ hiByte next →
        exec row.1 s = .next ((busCycles [.read s.cpu.pc, .read (s.cpu.pc + 1), .read next,
            .read (word (hiByte next) (loByte target))] s).setCpu
          { s.cpu with pc := target }))

/-- The flag instructions and NOP (rules R250 to R255, R260, R261): the one flag named changes and nothing else. -/
def Obligations.FlagInstructionResult : Prop :=
  ∀ s : State, s.fault = none →
    let u := busCycles [.read s.cpu.pc, .read (s.cpu.pc + 1)] s
    let c := { s.cpu with pc := s.cpu.pc + 1 }
    let p := s.cpu.p
    exec .clc s = .next (u.setCpu { c with p := { p with c := false } }) ∧
    exec .sec s = .next (u.setCpu { c with p := { p with c := true } }) ∧
    exec .cli s = .next (u.setCpu { c with p := { p with i := false } }) ∧
    exec .sei s = .next (u.setCpu { c with p := { p with i := true } }) ∧
    exec .cld s = .next (u.setCpu { c with p := { p with d := false } }) ∧
    exec .sed s = .next (u.setCpu { c with p := { p with d := true } }) ∧
    exec .clv s = .next (u.setCpu { c with p := { p with v := false } }) ∧
    exec .nop s = .next (u.setCpu c) ∧
    encode .clc = [0x18] ∧ encode .sec = [0x38] ∧ encode .cli = [0x58] ∧ encode .sei = [0x78] ∧
    encode .cld = [0xD8] ∧ encode .sed = [0xF8] ∧ encode .clv = [0xB8] ∧ encode .nop = [0xEA]

/-- JMP, JSR and RTS (rules R256 to R259): the pointer of JMP `(abs)` does not carry into its high byte; JSR pushes the
address of its third byte, high byte first; RTS adds 1 to the address it pulls. -/
def Obligations.JumpCallAndReturnResult : Prop :=
  ∀ (s : State) (lo hi : Byte), s.fault = none →
    let pc := s.cpu.pc
    let sp := s.cpu.sp
    let two : List BusCycle := [.read pc, .read (pc + 1)]
    let three := two ++ [.read (pc + 2)]
    let pointer := three ++ [.read (word hi lo)]
    let whole := pointer ++ [.read (word hi (lo + 1))]
    let call := two ++ [.read (word 0x01 sp), .write (word 0x01 sp) (hiByte (pc + 2)),
      .write (word 0x01 (sp - 1)) (loByte (pc + 2)), .read (pc + 2)]
    let pulledLo := two ++ [.read (word 0x01 sp), .read (word 0x01 (sp + 1))]
    let pulledHi := pulledLo ++ [.read (word 0x01 (sp + 2))]
    let back := word (busCycles pulledHi s).dbus (busCycles pulledLo s).dbus
    exec (.jmpAbs lo hi) s = .next ((busCycles three s).setCpu { s.cpu with pc := word hi lo }) ∧
    exec (.jmpInd lo hi) s = .next ((busCycles whole s).setCpu
      { s.cpu with pc := word (busCycles whole s).dbus (busCycles pointer s).dbus }) ∧
    (Quiet call s →
      exec (.jsr lo hi) s = .next ((busCycles call s).setCpu { s.cpu with pc := word hi lo, sp := sp - 2 })) ∧
    exec .rts s = .next ((busCycles (pulledHi ++ [.read back]) s).setCpu
      { s.cpu with pc := back + 1, sp := sp + 2 }) ∧
    encode (.jmpAbs lo hi) = [0x4C, lo, hi] ∧ encode (.jmpInd lo hi) = [0x6C, lo, hi] ∧
    encode (.jsr lo hi) = [0x20, lo, hi] ∧ encode .rts = [0x60]

/-- BRK and RTI, trap entry and trap return (rules R262, R263, R304, R305): BRK pushes the address two above its own and
the status byte, sets I, and loads PC from the vector at `0xFFFE`; RTI takes all six flags and then PC from the stack
and adds nothing. -/
def Obligations.BreakAndReturnResult : Prop :=
  ∀ s : State, s.fault = none →
    let pc := s.cpu.pc
    let sp := s.cpu.sp
    let two : List BusCycle := [.read pc, .read (pc + 1)]
    let entry := two ++ [.write (word 0x01 sp) (hiByte (pc + 2)), .write (word 0x01 (sp - 1)) (loByte (pc + 2)),
      .write (word 0x01 (sp - 2)) (statusByte s.cpu.p)]
    let vectorLo := entry ++ [.read 0xFFFE]
    let vectorHi := vectorLo ++ [.read 0xFFFF]
    let status := two ++ [.read (word 0x01 sp), .read (word 0x01 (sp + 1))]
    let backLo := status ++ [.read (word 0x01 (sp + 2))]
    let backHi := backLo ++ [.read (word 0x01 (sp + 3))]
    let m := (busCycles status s).dbus
    (Quiet entry s →
      exec .brk s = .next ((busCycles vectorHi s).setCpu { s.cpu with
        pc := word (busCycles vectorHi s).dbus (busCycles vectorLo s).dbus
        sp := sp - 3
        p := { s.cpu.p with i := true } })) ∧
    exec .rti s = .next ((busCycles backHi s).setCpu { s.cpu with
      pc := word (busCycles backHi s).dbus (busCycles backLo s).dbus
      sp := sp + 3
      p := ⟨m.getLsbD 7, m.getLsbD 6, m.getLsbD 3, m.getLsbD 2, m.getLsbD 1, m.getLsbD 0⟩ }) ∧
    encode .brk = [0x00] ∧ encode .rti = [0x40]

/-- Call and return, trap and return from it (rules R66, R258, R259, R262, R263): with the stack bytes in RAM, RTS in a
state with the RAM and stack pointer that JSR left goes to the instruction after the JSR, and RTI in a state with the
RAM and stack pointer that BRK left goes behind the padding byte with the flags BRK found; both leave the stack
pointer where it was. -/
def Obligations.ReturnUndoesCallAndTrap : Prop :=
  (∀ (s t u : State) (lo hi : Byte), s.fault = none → Memory.wf s.ram = true → 0x81 ≤ s.cpu.sp.toNat →
    exec (.jsr lo hi) s = .next t → u.fault = none → u.ram = t.ram → u.cpu.sp = t.cpu.sp →
    ∃ w, exec .rts u = .next w ∧ w.cpu.pc = s.cpu.pc + 3 ∧ w.cpu.sp = s.cpu.sp ∧ w.cpu.p = u.cpu.p) ∧
  (∀ s t u : State, s.fault = none → Memory.wf s.ram = true → 0x82 ≤ s.cpu.sp.toNat →
    exec .brk s = .next t → u.fault = none → u.ram = t.ram → u.cpu.sp = t.cpu.sp →
    ∃ w, exec .rti u = .next w ∧ w.cpu.pc = s.cpu.pc + 2 ∧ w.cpu.sp = s.cpu.sp ∧ w.cpu.p = s.cpu.p)

/-! ### The undocumented opcodes -/

/-- An undocumented opcode that the policy gives no meaning (rules R280, R283, R302): all 105 under `fault`; ANE, LXA,
SHA, SHX, SHY, TAS, JAM, and ARR in decimal, under `emulate_stable`.  The record of the opcode and its address is all
that changes. -/
def Obligations.UnsupportedOpcodeFaults : Prop :=
  ∀ (i : Instr) (s : State),
    (i.unsupported s = true → exec i s = .next { s with fault := some ⟨i.form.op, s.cpu.pc⟩ }) ∧
    (i.unsupported s = true ↔
      i.form.name.documented = false ∧
      (s.par.illegalPolicy = .fault ∨
        s.par.illegalPolicy = .emulateStable ∧
          (i.form.name ∈ [Mnemonic.ane, .lxa, .sha, .shx, .shy, .tas, .jam] ∨
            i.form.name = .arr ∧ s.par.decimalMode = .nmosBcd ∧ s.cpu.p.d = true)))

/-- Policy `nop` (rules R281, R282): every undocumented opcode, JAM included, reads its bytes, then the address of the
next instruction until its documented cycles are made, and changes no register, flag or byte of memory. -/
def Obligations.UndocumentedOpcodeAsNop : Prop :=
  ∀ (i : Instr) (s : State), s.fault = none → s.par.illegalPolicy = .nop → i.form.name.documented = false →
    let f := i.form
    let l := fetches f.length s.cpu.pc ++ List.replicate (f.cycles - f.length) (.read (f.nextPc s))
    l.length = f.cycles ∧ exec i s = .next ((busCycles l s).setCpu { s.cpu with pc := f.nextPc s })

/-- The undocumented loads, stores, NOPs and immediate instructions under `emulate_stable` (rule R283): LAX, LAS, SAX,
NOP in every mode, ANC, ALR, ARR in binary, SBX and USBC. -/
def Obligations.EmulatedLoadsStoresAndImmediates : Prop :=
  ∀ (i : Instr) (s : State), s.fault = none → s.par.illegalPolicy = .emulateStable →
    let f := i.form
    let m := f.operand s
    let u := busCycles (f.readCycles s) s
    let l := f.writeCycles (s.cpu.a &&& s.cpu.x) s
    let a := s.cpu.a
    let p := s.cpu.p
    let b := f.b1
    let result (c : Cpu) := (busCycles (fetches 2 s.cpu.pc) s).setCpu { c with pc := s.cpu.pc + 2 }
    (f.name = .lax →
      exec i s = .next (u.setCpu { s.cpu with a := m, x := m, pc := f.nextPc s, p := withNZ s.cpu.p m })) ∧
    (f.name = .las →
      let v := m &&& s.cpu.sp
      exec i s = .next (u.setCpu { s.cpu with a := v, x := v, sp := v, pc := f.nextPc s, p := withNZ s.cpu.p v })) ∧
    (f.name = .sax → Quiet l s → exec i s = .next ((busCycles l s).setCpu { s.cpu with pc := f.nextPc s })) ∧
    (f.name = .nopUndoc → f.mode ≠ .imp → exec i s = .next (u.setCpu { s.cpu with pc := f.nextPc s })) ∧
    (f.name = .nopUndoc → f.mode = .imp →
      exec i s = .next ((busCycles [.read s.cpu.pc, .read (s.cpu.pc + 1)] s).setCpu
        { s.cpu with pc := s.cpu.pc + 1 })) ∧
    (f.name = .anc →
      exec i s = .next (result { s.cpu with
        a := a &&& b, p := { withNZ p (a &&& b) with c := (a &&& b).getLsbD 7 } })) ∧
    (f.name = .alr →
      exec i s = .next (result { s.cpu with
        a := (a &&& b) >>> 1, p := { withNZ p ((a &&& b) >>> 1) with c := (a &&& b).getLsbD 0 } })) ∧
    (f.name = .arr → ¬(s.par.decimalMode = .nmosBcd ∧ p.d = true) →
      let r := ((a &&& b) >>> 1) ||| ((BitVec.ofBool p.c).setWidth 8 <<< 7)
      exec i s = .next (result { s.cpu with
        a := r, p := { withNZ p r with c := r.getLsbD 6, v := r.getLsbD 6 ^^ r.getLsbD 5 } })) ∧
    (f.name = .sbx →
      let t := a &&& s.cpu.x
      exec i s = .next (result { s.cpu with
        x := t - b, p := { withNZ p (t - b) with c := decide (b.toNat ≤ t.toNat) } })) ∧
    (f.name = .usbc →
      exec i s = .next (result { s.cpu with
        a := (subWithBorrow s.par a b p).value, p := (subWithBorrow s.par a b p).p }))

/-- The undocumented read-modify-write instructions under `emulate_stable` (rules R283, R284): SLO, RLA, SRE, RRA, DCP
and ISC write the shifted, decremented or incremented byte back and go on with it on A. -/
def Obligations.EmulatedReadModifyWrites : Prop :=
  ∀ (i : Instr) (s : State), s.fault = none → s.par.illegalPolicy = .emulateStable →
    let f := i.form
    let m := f.rmwOperand s
    let a := s.cpu.a
    let p := s.cpu.p
    let result (r : Byte) (c : Cpu) := (busCycles (f.rmwCycles r s) s).setCpu { c with pc := f.nextPc s }
    let ok (r : Byte) := Quiet (f.rmwCycles r s) s
    let rol := (m <<< 1) ||| (BitVec.ofBool p.c).setWidth 8
    let ror := (m >>> 1) ||| ((BitVec.ofBool p.c).setWidth 8 <<< 7)
    (f.name = .slo → ok (m <<< 1) →
      exec i s = .next (result (m <<< 1) { s.cpu with
        a := a ||| (m <<< 1), p := withNZ { p with c := m.getLsbD 7 } (a ||| (m <<< 1)) })) ∧
    (f.name = .rla → ok rol →
      exec i s = .next (result rol { s.cpu with
        a := a &&& rol, p := withNZ { p with c := m.getLsbD 7 } (a &&& rol) })) ∧
    (f.name = .sre → ok (m >>> 1) →
      exec i s = .next (result (m >>> 1) { s.cpu with
        a := a ^^^ (m >>> 1), p := withNZ { p with c := m.getLsbD 0 } (a ^^^ (m >>> 1)) })) ∧
    (f.name = .rra → ok ror →
      let sum := addWithCarry s.par a ror { p with c := m.getLsbD 0 }
      exec i s = .next (result ror { s.cpu with a := sum.value, p := sum.p })) ∧
    (f.name = .dcp → ok (m - 1) →
      exec i s = .next (result (m - 1) { s.cpu with
        p := { withNZ p (a - (m - 1)) with c := decide ((m - 1).toNat ≤ a.toNat) } })) ∧
    (f.name = .isc → ok (m + 1) →
      let diff := subWithBorrow s.par a (m + 1) p
      exec i s = .next (result (m + 1) { s.cpu with a := diff.value, p := diff.p }))

/-- A write to RSYNC under `RSYNC_POLICY = fault` (rules R280, R373): an instruction one of whose cycles makes one
faults, with its own record, in the state before it.  That the step is discarded whole is how the model reads "as in
rule R280" (log entry 6). -/
def Obligations.RsyncWriteFaults : Prop :=
  ∀ (i : Instr) (s : State), s.fault = none → s.par.rsyncPolicy = .fault → writesRsync (i.cycleList s) = true →
    exec i s = .next { s with fault := some ⟨i.form.op, s.cpu.pc⟩ }

/-! ### Whole-machine rules over the instructions -/

/-- The bus sees exactly the cycle list of the spec (rules R63, R145 to R158, R282 to R284): for every instruction that
the machine executes, the state after it is the state its list of bus cycles leads to, with some registers replaced. -/
def Obligations.InstructionsMakeTheirCycleLists : Prop :=
  ∀ (i : Instr) (s : State), s.fault = none → i.unsupported s = false → Quiet (i.cycleList s) s →
    ∃ c, exec i s = .next ((busCycles (i.cycleList s) s).setCpu c)

/-- Cycle costs (rules R27, R63, R145 table E-3, R158): a documented instruction makes the cycles of its row and the
adjustment of a page crossing or a taken branch; the cycle counter counts them, and no fewer where the CPU is held. -/
def Obligations.DocumentedCycleCost : Prop :=
  ∀ (i : Instr) (s t : State), s.fault = none → i.form.name.documented = true →
    (i.cycleList s).length = i.form.cycles + i.penalty s ∧
    (exec i s = .next t → t.fault = none →
      s.cyc + (i.cycleList s).length ≤ t.cyc ∧
      (s.tia.beam.wsync = false →
        (∀ a v, .write a v ∈ i.cycleList s → decodeBus (busAddr a) ≠ .tia 0x02) →
        t.cyc = s.cyc + (i.cycleList s).length))

/-- Tables S-1 and S-2 (rules R21, R22, R25): no documented instruction writes a register or a flag that the tables do
not give it. -/
def Obligations.OnlyTheNamedRegistersAndFlagsChange : Prop :=
  ∀ (i : Instr) (s t : State), i.form.name.documented = true → exec i s = .next t →
    let n := i.form.name
    let nz := [Mnemonic.lda, .ldx, .ldy, .tax, .tay, .txa, .tya, .tsx, .pla, .adc, .sbc, .and, .ora, .eor, .cmp, .cpx,
      .cpy, .bit, .inc, .dec, .inx, .iny, .dex, .dey, .asl, .lsr, .rol, .ror, .plp, .rti]
    (n ∉ [Mnemonic.lda, .pla, .txa, .tya, .adc, .sbc, .and, .ora, .eor] →
      ¬(n ∈ [Mnemonic.asl, .lsr, .rol, .ror] ∧ i.form.mode = .acc) → t.cpu.a = s.cpu.a) ∧
    (n ∉ [Mnemonic.ldx, .tax, .tsx, .inx, .dex] → t.cpu.x = s.cpu.x) ∧
    (n ∉ [Mnemonic.ldy, .tay, .iny, .dey] → t.cpu.y = s.cpu.y) ∧
    (n ∉ [Mnemonic.txs, .pha, .php, .pla, .plp, .jsr, .rts, .rti, .brk] → t.cpu.sp = s.cpu.sp) ∧
    (n ∉ [Mnemonic.adc, .sbc, .cmp, .cpx, .cpy, .asl, .lsr, .rol, .ror, .clc, .sec, .plp, .rti] →
      t.cpu.p.c = s.cpu.p.c) ∧
    (n ∉ nz → t.cpu.p.z = s.cpu.p.z ∧ t.cpu.p.n = s.cpu.p.n) ∧
    (n ∉ [Mnemonic.sei, .cli, .brk, .plp, .rti] → t.cpu.p.i = s.cpu.p.i) ∧
    (n ∉ [Mnemonic.sed, .cld, .plp, .rti] → t.cpu.p.d = s.cpu.p.d) ∧
    (n ∉ [Mnemonic.adc, .sbc, .bit, .clv, .plp, .rti] → t.cpu.p.v = s.cpu.p.v)

/-- The memory frame of every instruction (rules R10, R33, R66, R69, R74, R112): a byte of RAM changes only where a
cycle of the instruction writes to it, and then holds the byte of the last such cycle; a byte of the cartridge RAM
changes only where a cycle accesses its write port; the image never changes.  The addresses are those of the
instruction's cycle list, computed by the functions the meanings use. -/
def Obligations.MemoryChangesExactlyWhereWritten : Prop :=
  ∀ (i : Instr) (s t : State), Memory.wf s.ram = true → Memory.wf s.map.ram = true → s.fault = none →
    exec i s = .next t →
    (∀ k : BitVec 7, (∀ a v, .write a v ∈ i.cycleList s → decodeBus (busAddr a) ≠ .ram k) →
      readCell t.ram k.toNat = readCell s.ram k.toNat) ∧
    (∀ (l r : List BusCycle) (a : Word) (v : Byte) (k : BitVec 7), t.fault = none →
      i.cycleList s = l ++ .write a v :: r → decodeBus (busAddr a) = .ram k →
      (∀ b w, .write b w ∈ r → decodeBus (busAddr b) ≠ .ram k) → readCell t.ram k.toNat = v) ∧
    (∀ k : BitVec 12,
      (hasCartRam s.map.scheme = true → k.toNat < 0x80 →
        ∀ c ∈ i.cycleList s, decodeBus (busAddr c.addr) ≠ .cartridge k) →
      readCell t.map.ram k.toNat = readCell s.map.ram k.toNat) ∧
    (∀ k, readCell t.map.rom k = readCell s.map.rom k)

/-- The device frame of every instruction (rules R62, R67 to R69, R75, R332, R333): without a write to the TIA its
registers stay and only its clock runs; the timer's interval changes only by a timer write; the banks change only by
an access to a hot-spot, or a write below `0x0040` in scheme `3F`. -/
def Obligations.DevicesChangeOnlyWhereAccessed : Prop :=
  ∀ (i : Instr) (s t : State), s.fault = none → exec i s = .next t →
    ((∀ a v reg, .write a v ∈ i.cycleList s → decodeBus (busAddr a) ≠ .tia reg) →
      t.tia.registers = s.tia.registers ∧ t.tia = runTia s.par s.inp (3 * (t.cyc - s.cyc)) s.tia) ∧
    ((∀ a v sel, .write a v ∈ i.cycleList s → decodeBus (busAddr a) = .riot sel →
        (sel.getLsbD 2 && sel.getLsbD 4) = false) →
      t.riot.interval = s.riot.interval ∧ t.riot.sub = s.riot.sub + BitVec.ofNat 10 (t.cyc - s.cyc)) ∧
    ((∀ c off b, c ∈ i.cycleList s → decodeBus (busAddr c.addr) = .cartridge off →
        hotSpot s.map.scheme off b = b) →
      (s.map.scheme = .s3f → ∀ a v, .write a v ∈ i.cycleList s → 0x40 ≤ (busAddr a).toNat) →
      t.map.bank = s.map.bank)

/-- Nothing a program can observe depends on the cycle and scanline counters, the vertical-sync bit, the colours, the
audio generators, the output history, or the parameters of the frame buffer and of the audio (rules R27, R36, R311,
R361, R366, R410, R442, R446): two states that differ only there step to states that differ only there. -/
def Obligations.HiddenStateIsNotObserved : Prop :=
  ∀ s s' t : State, observable s = observable s' → step s = .next t →
    ∃ t', step s' = .next t' ∧ observable t = observable t'

/-! ### The RIOT -/

/-- RIOT reads (rules R331, R337, R338, R340): INTIM returns the timer after this cycle's tick and clears the underflow
flag without stopping or reloading the timer; INSTAT returns the flag in bit 7 and changes nothing; the port reads
return the input snapshot.  Where the CPU is held the cycle of the read is the one after the hold. -/
def Obligations.RiotReadResult : Prop :=
  ∀ (s : State) (addr : Word) (sel : BitVec 5), decodeBus (busAddr addr) = .riot sel →
    let r := riotTick (hold s).riot
    (sel.getLsbD 2 = true → sel.getLsbD 0 = false →
      (rd addr s).1 = r.timer ∧ (rd addr s).2.riot = { r with flag := false }) ∧
    (sel.getLsbD 2 = true → sel.getLsbD 0 = true →
      (rd addr s).1 = (BitVec.ofBool r.flag ++ (0 : BitVec 7)) ∧ (rd addr s).2.riot = r) ∧
    (sel.getLsbD 2 = false → sel.getLsbD 1 = false → sel.getLsbD 0 = false →
      (rd addr s).1 = s.inp.swcha ∧ (rd addr s).2.riot = r) ∧
    (sel.getLsbD 2 = false → sel.getLsbD 1 = true → sel.getLsbD 0 = false →
      (rd addr s).1 = s.inp.swchb ∧ (rd addr s).2.riot = r)

/-- RIOT writes (rules R331 to R333, R342): a write to TIM1T, TIM8T, TIM64T or T1024T sets the count and the interval,
restarts the prescaler and clears the flag; every other write, and a read of a direction register, changes nothing of
the RIOT. -/
def Obligations.RiotWriteResult : Prop :=
  ∀ (s : State) (addr : Word) (sel : BitVec 5) (v : Byte), decodeBus (busAddr addr) = .riot sel →
    (∀ row ∈ [(0, Prescale.by1), (1, .by8), (2, .by64), (3, .by1024)],
      sel.getLsbD 4 = true → sel.getLsbD 2 = true → sel.toNat % 4 = row.1 →
      (wr addr v s).riot = ⟨v, row.2, 0, false⟩) ∧
    (¬(sel.getLsbD 4 = true ∧ sel.getLsbD 2 = true) → (wr addr v s).riot = riotTick s.riot) ∧
    (sel.getLsbD 2 = false → sel.getLsbD 0 = true →
      (rd addr s).1 = 0x00 ∧ (rd addr s).2.riot = riotTick (hold s).riot)

/-- The timer's course (rules R334 to R336, R339): `k` ticks after a write of `v` with interval `n` it shows
`v - 1 - (k - 1) / n`; it underflows to `0xFF` with the flag at `k = v * n + 1`; from there it counts down once a tick,
the flag set. -/
def Obligations.TimerCourseAfterWrite : Prop :=
  ∀ (v : Byte) (p : Prescale),
    let n := cyclesOf p
    let r : Riot := ⟨v, p, 0, false⟩
    (∀ k, 1 ≤ k → k ≤ v.toNat * n →
      (runRiot k r).timer.toNat = v.toNat - 1 - (k - 1) / n ∧ (runRiot k r).flag = false) ∧
    (∀ j, (runRiot (v.toNat * n + 1 + j) r).timer = 0xFF - BitVec.ofNat 8 j ∧
      (runRiot (v.toNat * n + 1 + j) r).flag = true)

/-! ### The TIA -/

/-- TIA reads (rules R70, R363 table V-2, R415): bits 7 and 6 are the latches or the input levels of the register,
bits 5..0 the value that was on the bus; registers 14 and 15 drive nothing.  No read changes the TIA but its clock.
Where the CPU is held the cycle of the read is the one after the hold. -/
def Obligations.TiaReadResult : Prop :=
  ∀ (s : State) (addr : Word) (reg : BitVec 6), decodeBus (busAddr addr) = .tia reg →
    let t := runTia s.par s.inp 3 (hold s).tia
    let cx := t.cx
    let dump := t.sync.dumpEn
    let level (latched pin : Bool) := if t.sync.latchEn then latched else pin
    (rd addr s).2.tia = t ∧
    (∀ row ∈ [(0x0, cx.m0p1, cx.m0p0), (0x1, cx.m1p0, cx.m1p1), (0x2, cx.p0pf, cx.p0bl), (0x3, cx.p1pf, cx.p1bl),
              (0x4, cx.m0pf, cx.m0bl), (0x5, cx.m1pf, cx.m1bl), (0x6, cx.blpf, false), (0x7, cx.p0p1, cx.m0m1),
              (0x8, !dump && s.inp.inpt0, false), (0x9, !dump && s.inp.inpt1, false),
              (0xA, !dump && s.inp.inpt2, false), (0xB, !dump && s.inp.inpt3, false),
              (0xC, level t.latch.inpt4 s.inp.inpt4, false), (0xD, level t.latch.inpt5 s.inp.inpt5, false)],
      reg.toNat % 16 = row.1 →
      (rd addr s).1 = (BitVec.ofBool row.2.1 ++ BitVec.ofBool row.2.2 ++ s.dbus.setWidth 6)) ∧
    (reg.toNat % 16 = 0xE ∨ reg.toNat % 16 = 0xF → (rd addr s).1 = s.dbus)

/-- The plain TIA write registers (rule R362 table V-1, rules R374, R376 to R380, R389, R390, R392, R416, R441): each
keeps the bits the table gives it, at the write, after that cycle's three chip-cycles, and changes nothing else.  A
write to RSYNC changes nothing of the TIA: table V-1 lists it as resetting the horizontal counter, rule R373 (the spec's
own decision D14) gives it no effect, or the fault, under `RSYNC_POLICY`. -/
def Obligations.TiaRegisterWriteResult : Prop :=
  ∀ (s : State) (addr : Word) (reg : BitVec 6) (v : Byte), decodeBus (busAddr addr) = .tia reg →
    let t := runTia s.par s.inp 3 s.tia
    let w := (wr addr v s).tia
    let six : BitVec 6 := (v &&& 0x37).setWidth 6
    let high : BitVec 4 := BitVec.ofNat 4 (v.toNat / 16)
    (reg = 0x04 → w = { t with p0 := { t.p0 with nusiz := six } }) ∧
    (reg = 0x05 → w = { t with p1 := { t.p1 with nusiz := six } }) ∧
    (reg = 0x06 → w = { t with p0 := { t.p0 with colup := v &&& 0xFE } }) ∧
    (reg = 0x07 → w = { t with p1 := { t.p1 with colup := v &&& 0xFE } }) ∧
    (reg = 0x08 → w = { t with pf := { t.pf with colupf := v &&& 0xFE } }) ∧
    (reg = 0x09 → w = { t with pf := { t.pf with colubk := v &&& 0xFE } }) ∧
    (reg = 0x0A → w = { t with pf := { t.pf with ctrlpf := six } }) ∧
    (reg = 0x0B → w = { t with p0 := { t.p0 with refp := v.getLsbD 3 } }) ∧
    (reg = 0x0C → w = { t with p1 := { t.p1 with refp := v.getLsbD 3 } }) ∧
    (reg = 0x0D → w = { t with pf := { t.pf with pf0 := high } }) ∧
    (reg = 0x0E → w = { t with pf := { t.pf with pf1 := v } }) ∧
    (reg = 0x0F → w = { t with pf := { t.pf with pf2 := v } }) ∧
    (reg = 0x15 → w = { t with ch0 := { t.ch0 with audc := BitVec.ofNat 4 v.toNat } }) ∧
    (reg = 0x16 → w = { t with ch1 := { t.ch1 with audc := BitVec.ofNat 4 v.toNat } }) ∧
    (reg = 0x17 → w = { t with ch0 := { t.ch0 with audf := BitVec.ofNat 5 v.toNat } }) ∧
    (reg = 0x18 → w = { t with ch1 := { t.ch1 with audf := BitVec.ofNat 5 v.toNat } }) ∧
    (reg = 0x19 → w = { t with ch0 := { t.ch0 with audv := BitVec.ofNat 4 v.toNat } }) ∧
    (reg = 0x1A → w = { t with ch1 := { t.ch1 with audv := BitVec.ofNat 4 v.toNat } }) ∧
    (reg = 0x1D → w = { t with m0 := { t.m0 with enam := v.getLsbD 1 } }) ∧
    (reg = 0x1E → w = { t with m1 := { t.m1 with enam := v.getLsbD 1 } }) ∧
    (reg = 0x1F → w = { t with bl := { t.bl with enablNew := v.getLsbD 1 } }) ∧
    (reg = 0x20 → w = { t with p0 := { t.p0 with hm := high } }) ∧
    (reg = 0x21 → w = { t with p1 := { t.p1 with hm := high } }) ∧
    (reg = 0x22 → w = { t with m0 := { t.m0 with hm := high } }) ∧
    (reg = 0x23 → w = { t with m1 := { t.m1 with hm := high } }) ∧
    (reg = 0x24 → w = { t with bl := { t.bl with hm := high } }) ∧
    (reg = 0x25 → w = { t with p0 := { t.p0 with vdel := v.getLsbD 0 } }) ∧
    (reg = 0x26 → w = { t with p1 := { t.p1 with vdel := v.getLsbD 0 } }) ∧
    (reg = 0x27 → w = { t with bl := { t.bl with vdel := v.getLsbD 0 } }) ∧
    (reg = 0x03 ∨ 0x2D ≤ reg.toNat → w = t)

/-- Player graphics (rule R388): a write to GRP0 loads the new copy of player 0 and the old copy of player 1; a write
to GRP1 loads the new copy of player 1, the old copy of player 0 and the old ball enable; the vertical delay bit
chooses the copy that is drawn. -/
def Obligations.PlayerGraphicsAreDelayed : Prop :=
  (∀ (s : State) (addr : Word) (v : Byte),
    let t := runTia s.par s.inp 3 s.tia
    let w := (wr addr v s).tia
    (decodeBus (busAddr addr) = .tia 0x1B →
      w = { t with p0 := { t.p0 with grpNew := v }, p1 := { t.p1 with grpOld := t.p1.grpNew } }) ∧
    (decodeBus (busAddr addr) = .tia 0x1C →
      w = { t with
        p1 := { t.p1 with grpNew := v }
        p0 := { t.p0 with grpOld := t.p0.grpNew }
        bl := { t.bl with enablOld := t.bl.enablNew } })) ∧
  (∀ p : Player, (p.vdel = true → graphics p = p.grpOld) ∧ (p.vdel = false → graphics p = p.grpNew))

/-- The strobes that move objects (rules R384, R391 to R394): a position strobe puts the object 5 pixels (players) or 4
(missiles, ball) to the right of the beam, or at pixel 3 or 2 in horizontal blank; HMOVE subtracts each motion
register, modulo 160, and blanks the left edge when it is early; HMCLR clears the five registers; releasing a locked
missile puts it in the middle of its player. -/
def Obligations.StrobesPlaceTheObjects : Prop :=
  ∀ (s : State) (addr : Word) (reg : BitVec 6) (v : Byte), decodeBus (busAddr addr) = .tia reg →
    let t := runTia s.par s.inp 3 s.tia
    let w := (wr addr v s).tia
    let h := t.beam.hcount.val
    let player := if h < 68 then 3 else (h - 68 + 5) % 160
    let missile := if h < 68 then 2 else (h - 68 + 4) % 160
    let middle (n : BitVec 6) := if n.toNat % 8 = 5 then 8 else if n.toNat % 8 = 7 then 16 else 4
    let moves (p q : Fin 160) (hm : BitVec 4) := (q.val : Int) = ((p.val : Int) - hm.toInt) % 160
    (reg = 0x10 → w = { t with p0 := { t.p0 with pos := w.p0.pos } } ∧ w.p0.pos.val = player) ∧
    (reg = 0x11 → w = { t with p1 := { t.p1 with pos := w.p1.pos } } ∧ w.p1.pos.val = player) ∧
    (reg = 0x12 → w = { t with m0 := { t.m0 with pos := w.m0.pos } } ∧ w.m0.pos.val = missile) ∧
    (reg = 0x13 → w = { t with m1 := { t.m1 with pos := w.m1.pos } } ∧ w.m1.pos.val = missile) ∧
    (reg = 0x14 → w = { t with bl := { t.bl with pos := w.bl.pos } } ∧ w.bl.pos.val = missile) ∧
    (reg = 0x28 →
      w = { t with m0 := { t.m0 with resmp := v.getLsbD 1, pos := w.m0.pos } } ∧
      w.m0.pos.val =
        (if t.m0.resmp = true ∧ v.getLsbD 1 = false then (t.p0.pos.val + middle t.p0.nusiz) % 160
         else t.m0.pos.val)) ∧
    (reg = 0x29 →
      w = { t with m1 := { t.m1 with resmp := v.getLsbD 1, pos := w.m1.pos } } ∧
      w.m1.pos.val =
        (if t.m1.resmp = true ∧ v.getLsbD 1 = false then (t.p1.pos.val + middle t.p1.nusiz) % 160
         else t.m1.pos.val)) ∧
    (reg = 0x2A →
      moves t.p0.pos w.p0.pos t.p0.hm ∧ moves t.p1.pos w.p1.pos t.p1.hm ∧ moves t.m0.pos w.m0.pos t.m0.hm ∧
      moves t.m1.pos w.m1.pos t.m1.hm ∧ moves t.bl.pos w.bl.pos t.bl.hm ∧
      w = { t with
        p0 := { t.p0 with pos := w.p0.pos }
        p1 := { t.p1 with pos := w.p1.pos }
        m0 := { t.m0 with pos := w.m0.pos }
        m1 := { t.m1 with pos := w.m1.pos }
        bl := { t.bl with pos := w.bl.pos }
        beam := { t.beam with hmoveBlank := t.beam.hmoveBlank || decide (h ≤ s.par.hmoveBlankMax) } }) ∧
    (reg = 0x2B →
      w = { t with
        p0 := { t.p0 with hm := 0 }
        p1 := { t.p1 with hm := 0 }
        m0 := { t.m0 with hm := 0 }
        m1 := { t.m1 with hm := 0 }
        bl := { t.bl with hm := 0 } })

/-- VSYNC, VBLANK and the input latches (rules R31, R367 to R369, R415): the rising edge of VSYNC ends the frame and
resets the scanline counter and nothing else; VBLANK sets the blank, latch and dump bits, and releases the latches
where bit 6 is 0; while they are on, each latch goes to 0 in a chip-cycle in which its pin is 0, and stays there. -/
def Obligations.VerticalSyncBlankAndInputLatches : Prop :=
  (∀ (par : Params) (inp : Inputs) (t : Tia) (n : Nat),
    let u := runTia par inp (n + 1) t
    (t.sync.latchEn = true →
      u.latch.inpt4 = (t.latch.inpt4 && inp.inpt4) ∧ u.latch.inpt5 = (t.latch.inpt5 && inp.inpt5)) ∧
    (t.sync.latchEn = false → u.latch = t.latch)) ∧
  ∀ (s : State) (addr : Word) (v : Byte),
    let t := runTia s.par s.inp 3 s.tia
    let w := (wr addr v s).tia
    let rising := t.sync.vsync = false ∧ v.getLsbD 1 = true
    (decodeBus (busAddr addr) = .tia 0x00 →
      w = { t with
        sync := { t.sync with vsync := v.getLsbD 1 }
        beam := { t.beam with line := w.beam.line } } ∧
      (rising → w.beam.line = 0 ∧ (wr addr v s).out = .endOfFrame :: (advanceChips s).out) ∧
      (¬rising → w.beam.line = t.beam.line ∧ (wr addr v s).out = (advanceChips s).out)) ∧
    (decodeBus (busAddr addr) = .tia 0x01 →
      w = { t with
        sync := { t.sync with vblank := v.getLsbD 1, latchEn := v.getLsbD 6, dumpEn := v.getLsbD 7 }
        latch := w.latch } ∧
      (v.getLsbD 6 = false → w.latch = ⟨true, true⟩) ∧ (v.getLsbD 6 = true → w.latch = t.latch))

/-- The collision latches (rules R37, R365, R394, R410, R412): CXCLR clears all fifteen, and no instruction that does
not write it clears any; a chip-cycle at a drawn pixel sets the latches of the pairs of objects active there, also after
the strobe; in horizontal blank, in the eight columns of the HMOVE blank, and while VBLANK is on with
`COLLIDE_IN_VBLANK = false`, it sets none. -/
def Obligations.CollisionsOnlyWidenUntilCleared : Prop :=
  (∀ (s : State) (addr : Word) (v : Byte), decodeBus (busAddr addr) = .tia 0x2C →
    (wr addr v s).tia.cx = Collisions.clear) ∧
  (∀ (i : Instr) (s t : State), s.fault = none → exec i s = .next t →
    (∀ a v, .write a v ∈ i.cycleList s → decodeBus (busAddr a) ≠ .tia 0x2C) → s.tia.cx.le t.tia.cx = true) ∧
  (∀ (par : Params) (inp : Inputs) (t : Tia), 68 ≤ t.beam.hcount.val →
    ¬(t.beam.hmoveBlank = true ∧ t.beam.hcount.val < 76) → (t.sync.vblank = false ∨ par.collideInVblank = true) →
    let o := activeAt t (t.beam.hcount.val - 68)
    let c := (tiaClock par inp t).1.cx
    (c.m0p1 = (t.cx.m0p1 || o.m0 && o.p1)) ∧ (c.m0p0 = (t.cx.m0p0 || o.m0 && o.p0)) ∧
    (c.m1p0 = (t.cx.m1p0 || o.m1 && o.p0)) ∧ (c.m1p1 = (t.cx.m1p1 || o.m1 && o.p1)) ∧
    (c.p0pf = (t.cx.p0pf || o.p0 && o.pf)) ∧ (c.p0bl = (t.cx.p0bl || o.p0 && o.bl)) ∧
    (c.p1pf = (t.cx.p1pf || o.p1 && o.pf)) ∧ (c.p1bl = (t.cx.p1bl || o.p1 && o.bl)) ∧
    (c.m0pf = (t.cx.m0pf || o.m0 && o.pf)) ∧ (c.m0bl = (t.cx.m0bl || o.m0 && o.bl)) ∧
    (c.m1pf = (t.cx.m1pf || o.m1 && o.pf)) ∧ (c.m1bl = (t.cx.m1bl || o.m1 && o.bl)) ∧
    (c.blpf = (t.cx.blpf || o.bl && o.pf)) ∧ (c.p0p1 = (t.cx.p0p1 || o.p0 && o.p1)) ∧
    (c.m0m1 = (t.cx.m0m1 || o.m0 && o.m1))) ∧
  (∀ (par : Params) (inp : Inputs) (t : Tia),
    t.beam.hcount.val < 68 ∨ (t.beam.hmoveBlank = true ∧ t.beam.hcount.val < 76) ∨
      (t.sync.vblank = true ∧ par.collideInVblank = false) →
    (tiaClock par inp t).1.cx = t.cx)

/-- The playfield, players, missiles and the ball (rules R365, R376, R380, R388, R396 to R398).  Which registers feed
which object is rule R365's: a missile takes the NUSIZ of its player, the ball takes CTRLPF, a player takes the copy of
its graphics that the vertical delay chooses.  The playfield is twenty bits over
the left half, four pixels each, PF0 from bit 4 up, PF1 from bit 7 down, PF2 from bit 0 up, and again over the right
half, mirrored where CTRLPF bit 0 is set.  Another object is active at a column exactly where one of its copies covers
it, positions counted modulo 160, a player where its graphics bit is set too. -/
def Obligations.PlayfieldAndObjectsCoverTheirColumns : Prop :=
  (∀ (t : Tia) (x : Nat),
    let o := activeAt t x
    o.p0 = playerBit x t.p0.pos t.p0.nusiz t.p0.refp (if t.p0.vdel then t.p0.grpOld else t.p0.grpNew) ∧
    o.p1 = playerBit x t.p1.pos t.p1.nusiz t.p1.refp (if t.p1.vdel then t.p1.grpOld else t.p1.grpNew) ∧
    o.m0 = missileBit x t.m0.pos t.p0.nusiz t.m0.enam t.m0.resmp ∧
    o.m1 = missileBit x t.m1.pos t.p1.nusiz t.m1.enam t.m1.resmp ∧
    o.bl = ballBit x t.bl t.pf.ctrlpf ∧ o.pf = pfBit x t.pf) ∧
  (∀ (f : Playfield) (x : Nat), x < 160 →
    let pattern : List Bool :=
      [f.pf0.getLsbD 0, f.pf0.getLsbD 1, f.pf0.getLsbD 2, f.pf0.getLsbD 3,
       f.pf1.getLsbD 7, f.pf1.getLsbD 6, f.pf1.getLsbD 5, f.pf1.getLsbD 4,
       f.pf1.getLsbD 3, f.pf1.getLsbD 2, f.pf1.getLsbD 1, f.pf1.getLsbD 0,
       f.pf2.getLsbD 0, f.pf2.getLsbD 1, f.pf2.getLsbD 2, f.pf2.getLsbD 3,
       f.pf2.getLsbD 4, f.pf2.getLsbD 5, f.pf2.getLsbD 6, f.pf2.getLsbD 7]
    let right := if f.ctrlpf.getLsbD 0 then pattern.reverse else pattern
    (pattern ++ right)[x / 4]? = some (pfBit x f)) ∧
  ∀ (x : Nat) (pos : Fin 160) (nusiz : BitVec 6), x < 160 →
    let n := nusiz.toNat % 8
    let offsets : List Nat := [[0], [0, 16], [0, 32], [0, 16, 32], [0, 64], [0], [0, 32, 64], [0]].getD n []
    let scale := if n = 5 then 2 else if n = 7 then 4 else 1
    let column (o d : Nat) : Prop := (d : Int) = ((x : Int) - pos.val - o) % 160
    (∀ (refp : Bool) (g : Byte),
      playerBit x pos nusiz refp g = true ↔
        ∃ o ∈ offsets, ∃ d, column o d ∧ d < 8 * scale ∧
          (if refp then g.getLsbD (d / scale) else g.getLsbD (7 - d / scale)) = true) ∧
    (∀ enam resmp : Bool,
      missileBit x pos nusiz enam resmp = true ↔
        enam = true ∧ resmp = false ∧ ∃ o ∈ offsets, ∃ d, column o d ∧ d < 2 ^ (nusiz.toNat / 16)) ∧
    (∀ (b : Ball) (ctrlpf : BitVec 6), b.pos = pos →
      (ballBit x b ctrlpf = true ↔
        (if b.vdel then b.enablOld else b.enablNew) = true ∧ ∃ d, column 0 d ∧ d < 2 ^ (ctrlpf.toNat / 16)))

/-- Colour by priority (rule R404): with PFP the playfield and the ball stand in front; without it player 0 and missile
0, then player 1 and missile 1, then the playfield and the ball; in score mode a playfield pixel counts as the player
of its half. -/
def Obligations.ColourFollowsPriority : Prop :=
  ∀ (t : Tia) (x : Nat) (o : Active),
    let pfp := t.pf.ctrlpf.getLsbD 2
    let score := t.pf.ctrlpf.getLsbD 1
    let left := score = true ∧ o.pf = true ∧ x < 80
    let right := score = true ∧ o.pf = true ∧ 80 ≤ x
    let first := o.p0 = true ∨ o.m0 = true
    let second := o.p1 = true ∨ o.m1 = true
    let field := o.pf = true ∨ o.bl = true
    (pfp = true → field → colour t x o = t.pf.colupf) ∧
    (pfp = true → ¬field → first → colour t x o = t.p0.colup) ∧
    (pfp = true → ¬field → ¬first → second → colour t x o = t.p1.colup) ∧
    (pfp = true → ¬field → ¬first → ¬second → colour t x o = t.pf.colubk) ∧
    (pfp = false → first ∨ left → colour t x o = t.p0.colup) ∧
    (pfp = false → ¬(first ∨ left) → second ∨ right → colour t x o = t.p1.colup) ∧
    (pfp = false → ¬(first ∨ left) → ¬(second ∨ right) → field → colour t x o = t.pf.colupf) ∧
    (pfp = false → ¬(first ∨ left) → ¬(second ∨ right) → ¬field → colour t x o = t.pf.colubk)

/-- What a chip-cycle puts out (rules R364, R365, R368, R370, R394, R442): a pixel only in the visible part of the line,
not under the HMOVE blank, not while VBLANK is on, and only on the lines of the frame buffer; `EndOfScanline` at the
last chip-cycle; a sample at the two audio phases. -/
def Obligations.ChipCycleOutput : Prop :=
  ∀ (par : Params) (inp : Inputs) (t : Tia),
    let out := (tiaClock par inp t).2
    let h := t.beam.hcount.val
    (∀ row x c, .pixel row x c ∈ out ↔
      68 ≤ h ∧ ¬(t.beam.hmoveBlank = true ∧ h < 76) ∧ t.sync.vblank = false ∧ par.fbFirstLine ≤ t.beam.line ∧
      t.beam.line < par.fbFirstLine + par.fbLines ∧
      x = h - 68 ∧ row = t.beam.line - par.fbFirstLine ∧ c = colour t x (activeAt t x)) ∧
    (.endOfScanline ∈ out ↔ h = 227) ∧
    ((∃ n, .sample n ∈ out) ↔ t.beam.hcount = par.audioPhaseA ∨ t.beam.hcount = par.audioPhaseB) ∧
    .endOfFrame ∉ out ∧
    (tiaClock par inp t).1.beam.hcount.val = (h + 1) % 228

/-- The tone generators (rules R441, R443, R446): each channel's waveform moves on where the divider meets the
frequency register; a sample is the sum of the volumes of the channels whose output is 1, at most 30; and with types 0
and `0xB` a channel that has just moved on gives its volume, whatever the waveform generator.  How a generator other
than the default is held, a coded state with uninterpreted functions and a bit that forces condition (b), is the model's
choice (log entry 11). -/
def Obligations.AudioSampleIsVolumeWeighted : Prop :=
  ∀ t : Tia,
    let u := (audioClock t).1
    let level (c : Channel) := if waveOut c.awave then c.audv.toNat else 0
    (audioClock t).2 = level u.ch0 + level u.ch1 ∧ (audioClock t).2 ≤ 30 ∧
    u = { t with ch0 := u.ch0, ch1 := u.ch1 } ∧
    (∀ pair ∈ [(t.ch0, u.ch0), (t.ch1, u.ch1)],
      (pair.1.adiv = pair.1.audf →
        pair.2 = { pair.1 with adiv := 0, awave := waveStep pair.1.audc pair.1.awave }) ∧
      (pair.1.adiv ≠ pair.1.audf → pair.2 = { pair.1 with adiv := pair.1.adiv + 1 }) ∧
      (pair.1.adiv = pair.1.audf → pair.1.audc = 0x0 ∨ pair.1.audc = 0xB → level pair.2 = pair.1.audv.toNat))

/-- The default waveform generator (rule R446), type by type: types 0 and `0xB` give 1; the types from `0xC` on act
at every third step only; every other step moves the 5-bit counter, and where the type's gate is open also the square
wave, the 9-bit counter, the 5-bit pattern or the 4-bit counter, whose new bit is the output. -/
def Obligations.DefaultWaveformByType : Prop :=
  waveInit .default = .default ⟨0xF, 0x1F, 0x1FF, false, 0, true⟩ ∧
  ∀ (audc : BitVec 4) (w : Wave),
    let n := audc.toNat
    let p4 := BitVec.ofNat 4 (2 * w.p4.toNat + (w.p4.getLsbD 3 ^^ w.p4.getLsbD 2).toNat)
    let p5 := BitVec.ofNat 5 (2 * w.p5.toNat + (w.p5.getLsbD 4 ^^ w.p5.getLsbD 2).toNat)
    let p9 := BitVec.ofNat 9 (2 * w.p9.toNat + (w.p9.getLsbD 8 ^^ w.p9.getLsbD 4).toNat)
    let acts := n ∉ [0x0, 0xB] ∧ (12 ≤ n → w.d3 = 2)
    let v := { w with p5 := p5, d3 := if 12 ≤ n then 0 else w.d3 }
    let opened := n % 4 < 2 ∨ (n % 4 = 2 ∧ (p5 = 0x1F ∨ p5 = 0x01)) ∨ (n % 4 = 3 ∧ p5.getLsbD 4 = true)
    let result (u : Wave) := waveStep audc (.default w) = .default u ∧ waveOut (.default u) = u.out
    (n ∈ [0x0, 0xB] → result { w with out := true }) ∧
    (12 ≤ n → w.d3 ≠ 2 → result { w with d3 := w.d3 + 1 }) ∧
    (acts → ¬opened → result v) ∧
    (acts → opened → n ∈ [0x4, 0x5, 0x6, 0x7, 0xC, 0xD, 0xE, 0xF] → result { v with t := !w.t, out := !w.t }) ∧
    (acts → opened → n = 0x8 → result { v with p9 := p9, out := p9.getLsbD 8 }) ∧
    (acts → opened → n ∈ [0x9, 0xA] → result { v with out := p5.getLsbD 4 }) ∧
    (acts → opened → n ∈ [0x1, 0x2, 0x3] → result { v with p4 := p4, out := p4.getLsbD 3 })
end

