-- ==== Sys2Proof/Laws/Memory.lean ====
section
/-!
SUPPORT. The byte stores: reading after a write, and that a write keeps the canonical form and the bound.
-/

namespace Sys2Proof.Machine

/-- A store whose indexes begin at `lo` begins at every lower bound too. -/
theorem wfFrom_mono {lo lo' : Nat} (m : Memory) (h : lo' ≤ lo) (hm : wfFrom lo m = true) : wfFrom lo' m = true := by
  cases m with
  | nil => rfl
  | cons c rest =>
    simp only [wfFrom, Bool.and_eq_true, decide_eq_true_eq] at hm ⊢
    exact ⟨⟨by omega, hm.1.2⟩, hm.2⟩

/-- An index below all those of a store reads as unlisted. -/
theorem readCell_below {lo a : Nat} (m : Memory) (h : a < lo) (hm : wfFrom lo m = true) :
    readCell m a = unlistedByte := by
  induction m generalizing lo with
  | nil => rfl
  | cons c rest ih =>
    simp only [wfFrom, Bool.and_eq_true, decide_eq_true_eq] at hm
    simp only [readCell]
    rw [if_neg (by omega)]
    exact ih (lo := c.1 + 1) (by omega) hm.2

theorem readCell_consCell (a k : Nat) (v : Byte) (m : Memory) (hm : wfFrom (a + 1) m = true) :
    readCell (consCell a v m) k = if k = a then v else readCell m k := by
  unfold consCell
  split
  · rename_i hv
    split
    · rename_i hk
      subst hk
      rw [hv]
      exact readCell_below m (by omega) hm
    · rfl
  · simp only [readCell, eq_comm]

theorem wfFrom_consCell {lo a : Nat} (v : Byte) (m : Memory) (ha : lo ≤ a) (hm : wfFrom (a + 1) m = true) :
    wfFrom lo (consCell a v m) = true := by
  unfold consCell
  split
  · exact wfFrom_mono m (by omega) hm
  · simp_all [wfFrom]

/-- A write keeps the canonical form, from any lower bound of the indexes. -/
theorem wfFrom_writeCell {lo : Nat} (m : Memory) (a : Nat) (v : Byte) (ha : lo ≤ a) (hm : wfFrom lo m = true) :
    wfFrom lo (writeCell m a v) = true := by
  induction m generalizing lo with
  | nil => exact wfFrom_consCell v [] ha rfl
  | cons c rest ih =>
    simp only [wfFrom, Bool.and_eq_true, decide_eq_true_eq] at hm
    simp only [writeCell]
    split
    · simp only [wfFrom, Bool.and_eq_true, decide_eq_true_eq]
      exact ⟨hm.1, ih (by omega) hm.2⟩
    · split
      · exact wfFrom_consCell v rest ha (by rename_i h; exact h ▸ hm.2)
      · refine wfFrom_consCell v _ ha ?_
        simp only [wfFrom, Bool.and_eq_true, decide_eq_true_eq]
        exact ⟨⟨by omega, hm.1.2⟩, hm.2⟩

/-- A write keeps the canonical form. -/
theorem Memory.wf_writeCell (m : Memory) (a : Nat) (v : Byte) (hm : Memory.wf m = true) :
    Memory.wf (writeCell m a v) = true :=
  wfFrom_writeCell m a v (Nat.zero_le a) hm

/-- Reading after a write: the byte written at its index, every other byte as before. -/
theorem readCell_writeCell_from {lo : Nat} (m : Memory) (a k : Nat) (v : Byte) (hm : wfFrom lo m = true) :
    readCell (writeCell m a v) k = if k = a then v else readCell m k := by
  induction m generalizing lo with
  | nil => exact readCell_consCell a k v [] rfl
  | cons c rest ih =>
    simp only [wfFrom, Bool.and_eq_true, decide_eq_true_eq] at hm
    simp only [writeCell]
    split
    · simp only [readCell, ih hm.2]
      split <;> split <;> first | rfl | omega
    · split
      · rename_i h
        rw [readCell_consCell a k v rest (h ▸ hm.2)]
        simp only [readCell]
        split
        · rfl
        · rw [if_neg (by omega)]
      · refine readCell_consCell a k v _ ?_
        simp only [wfFrom, Bool.and_eq_true, decide_eq_true_eq]
        exact ⟨⟨by omega, hm.1.2⟩, hm.2⟩

theorem readCell_writeCell (m : Memory) (a k : Nat) (v : Byte) (hm : Memory.wf m = true) :
    readCell (writeCell m a v) k = if k = a then v else readCell m k :=
  readCell_writeCell_from m a k v hm

theorem belowBound_consCell {bound a : Nat} (v : Byte) (m : Memory) (ha : a < bound) (hm : belowBound bound m = true) :
    belowBound bound (consCell a v m) = true := by
  unfold consCell
  split
  · exact hm
  · simp_all [belowBound]

/-- A write below the bound keeps the bound. -/
theorem belowBound_writeCell {bound : Nat} (m : Memory) (a : Nat) (v : Byte) (ha : a < bound)
    (hm : belowBound bound m = true) : belowBound bound (writeCell m a v) = true := by
  induction m with
  | nil => exact belowBound_consCell v [] ha rfl
  | cons c rest ih =>
    simp only [belowBound, Bool.and_eq_true, decide_eq_true_eq] at hm
    simp only [writeCell]
    split
    · simp only [belowBound, Bool.and_eq_true, decide_eq_true_eq]
      exact ⟨hm.1, ih hm.2⟩
    · split
      · exact belowBound_consCell v rest ha hm.2
      · refine belowBound_consCell v _ ha ?_
        simp only [belowBound, Bool.and_eq_true, decide_eq_true_eq]
        exact hm

end Sys2Proof.Machine
end

