-- ==== Sys2Proof/Laws/State.lean ====
section
/-!
SUPPORT. The register updates of `State`: what each leaves in every field, and each as a replacement of all the
registers at once.
-/

namespace Sys2Proof.Machine

/-! ### All the registers -/

@[simp] theorem State.setCpu_cpu (s : State) (c : Cpu) : (s.setCpu c).cpu = c := rfl

@[simp] theorem State.setCpu_setCpu (s : State) (c d : Cpu) : (s.setCpu c).setCpu d = s.setCpu d := rfl

@[simp] theorem State.setCpu_self (s : State) : s.setCpu s.cpu = s := rfl

@[simp] theorem State.setCpu_cyc (s : State) (c : Cpu) : (s.setCpu c).cyc = s.cyc := rfl

@[simp] theorem State.setCpu_ram (s : State) (c : Cpu) : (s.setCpu c).ram = s.ram := rfl

@[simp] theorem State.setCpu_tia (s : State) (c : Cpu) : (s.setCpu c).tia = s.tia := rfl

@[simp] theorem State.setCpu_riot (s : State) (c : Cpu) : (s.setCpu c).riot = s.riot := rfl

@[simp] theorem State.setCpu_map (s : State) (c : Cpu) : (s.setCpu c).map = s.map := rfl

@[simp] theorem State.setCpu_dbus (s : State) (c : Cpu) : (s.setCpu c).dbus = s.dbus := rfl

@[simp] theorem State.setCpu_fault (s : State) (c : Cpu) : (s.setCpu c).fault = s.fault := rfl

@[simp] theorem State.setCpu_par (s : State) (c : Cpu) : (s.setCpu c).par = s.par := rfl

@[simp] theorem State.setCpu_inp (s : State) (c : Cpu) : (s.setCpu c).inp = s.inp := rfl

@[simp] theorem State.setCpu_pending (s : State) (c : Cpu) : (s.setCpu c).pending = s.pending := rfl

@[simp] theorem State.setCpu_out (s : State) (c : Cpu) : (s.setCpu c).out = s.out := rfl

/-! ### One register at a time -/

theorem State.setA_eq (s : State) (v : Byte) : s.setA v = s.setCpu { s.cpu with a := v } := rfl

@[simp] theorem State.setA_a (s : State) (v : Byte) : (s.setA v).cpu.a = v := rfl

@[simp] theorem State.setA_x (s : State) (v : Byte) : (s.setA v).cpu.x = s.cpu.x := rfl

@[simp] theorem State.setA_y (s : State) (v : Byte) : (s.setA v).cpu.y = s.cpu.y := rfl

@[simp] theorem State.setA_sp (s : State) (v : Byte) : (s.setA v).cpu.sp = s.cpu.sp := rfl

@[simp] theorem State.setA_pc (s : State) (v : Byte) : (s.setA v).cpu.pc = s.cpu.pc := rfl

@[simp] theorem State.setA_p (s : State) (v : Byte) : (s.setA v).cpu.p = s.cpu.p := rfl

@[simp] theorem State.setA_cyc (s : State) (v : Byte) : (s.setA v).cyc = s.cyc := rfl

@[simp] theorem State.setA_ram (s : State) (v : Byte) : (s.setA v).ram = s.ram := rfl

@[simp] theorem State.setA_tia (s : State) (v : Byte) : (s.setA v).tia = s.tia := rfl

@[simp] theorem State.setA_riot (s : State) (v : Byte) : (s.setA v).riot = s.riot := rfl

@[simp] theorem State.setA_map (s : State) (v : Byte) : (s.setA v).map = s.map := rfl

@[simp] theorem State.setA_dbus (s : State) (v : Byte) : (s.setA v).dbus = s.dbus := rfl

@[simp] theorem State.setA_fault (s : State) (v : Byte) : (s.setA v).fault = s.fault := rfl

@[simp] theorem State.setA_par (s : State) (v : Byte) : (s.setA v).par = s.par := rfl

@[simp] theorem State.setA_inp (s : State) (v : Byte) : (s.setA v).inp = s.inp := rfl

@[simp] theorem State.setA_pending (s : State) (v : Byte) : (s.setA v).pending = s.pending := rfl

@[simp] theorem State.setA_out (s : State) (v : Byte) : (s.setA v).out = s.out := rfl

theorem State.setX_eq (s : State) (v : Byte) : s.setX v = s.setCpu { s.cpu with x := v } := rfl

@[simp] theorem State.setX_a (s : State) (v : Byte) : (s.setX v).cpu.a = s.cpu.a := rfl

@[simp] theorem State.setX_x (s : State) (v : Byte) : (s.setX v).cpu.x = v := rfl

@[simp] theorem State.setX_y (s : State) (v : Byte) : (s.setX v).cpu.y = s.cpu.y := rfl

@[simp] theorem State.setX_sp (s : State) (v : Byte) : (s.setX v).cpu.sp = s.cpu.sp := rfl

@[simp] theorem State.setX_pc (s : State) (v : Byte) : (s.setX v).cpu.pc = s.cpu.pc := rfl

@[simp] theorem State.setX_p (s : State) (v : Byte) : (s.setX v).cpu.p = s.cpu.p := rfl

@[simp] theorem State.setX_cyc (s : State) (v : Byte) : (s.setX v).cyc = s.cyc := rfl

@[simp] theorem State.setX_ram (s : State) (v : Byte) : (s.setX v).ram = s.ram := rfl

@[simp] theorem State.setX_tia (s : State) (v : Byte) : (s.setX v).tia = s.tia := rfl

@[simp] theorem State.setX_riot (s : State) (v : Byte) : (s.setX v).riot = s.riot := rfl

@[simp] theorem State.setX_map (s : State) (v : Byte) : (s.setX v).map = s.map := rfl

@[simp] theorem State.setX_dbus (s : State) (v : Byte) : (s.setX v).dbus = s.dbus := rfl

@[simp] theorem State.setX_fault (s : State) (v : Byte) : (s.setX v).fault = s.fault := rfl

@[simp] theorem State.setX_par (s : State) (v : Byte) : (s.setX v).par = s.par := rfl

@[simp] theorem State.setX_inp (s : State) (v : Byte) : (s.setX v).inp = s.inp := rfl

@[simp] theorem State.setX_pending (s : State) (v : Byte) : (s.setX v).pending = s.pending := rfl

@[simp] theorem State.setX_out (s : State) (v : Byte) : (s.setX v).out = s.out := rfl

theorem State.setY_eq (s : State) (v : Byte) : s.setY v = s.setCpu { s.cpu with y := v } := rfl

@[simp] theorem State.setY_a (s : State) (v : Byte) : (s.setY v).cpu.a = s.cpu.a := rfl

@[simp] theorem State.setY_x (s : State) (v : Byte) : (s.setY v).cpu.x = s.cpu.x := rfl

@[simp] theorem State.setY_y (s : State) (v : Byte) : (s.setY v).cpu.y = v := rfl

@[simp] theorem State.setY_sp (s : State) (v : Byte) : (s.setY v).cpu.sp = s.cpu.sp := rfl

@[simp] theorem State.setY_pc (s : State) (v : Byte) : (s.setY v).cpu.pc = s.cpu.pc := rfl

@[simp] theorem State.setY_p (s : State) (v : Byte) : (s.setY v).cpu.p = s.cpu.p := rfl

@[simp] theorem State.setY_cyc (s : State) (v : Byte) : (s.setY v).cyc = s.cyc := rfl

@[simp] theorem State.setY_ram (s : State) (v : Byte) : (s.setY v).ram = s.ram := rfl

@[simp] theorem State.setY_tia (s : State) (v : Byte) : (s.setY v).tia = s.tia := rfl

@[simp] theorem State.setY_riot (s : State) (v : Byte) : (s.setY v).riot = s.riot := rfl

@[simp] theorem State.setY_map (s : State) (v : Byte) : (s.setY v).map = s.map := rfl

@[simp] theorem State.setY_dbus (s : State) (v : Byte) : (s.setY v).dbus = s.dbus := rfl

@[simp] theorem State.setY_fault (s : State) (v : Byte) : (s.setY v).fault = s.fault := rfl

@[simp] theorem State.setY_par (s : State) (v : Byte) : (s.setY v).par = s.par := rfl

@[simp] theorem State.setY_inp (s : State) (v : Byte) : (s.setY v).inp = s.inp := rfl

@[simp] theorem State.setY_pending (s : State) (v : Byte) : (s.setY v).pending = s.pending := rfl

@[simp] theorem State.setY_out (s : State) (v : Byte) : (s.setY v).out = s.out := rfl

theorem State.setSp_eq (s : State) (v : Byte) : s.setSp v = s.setCpu { s.cpu with sp := v } := rfl

@[simp] theorem State.setSp_a (s : State) (v : Byte) : (s.setSp v).cpu.a = s.cpu.a := rfl

@[simp] theorem State.setSp_x (s : State) (v : Byte) : (s.setSp v).cpu.x = s.cpu.x := rfl

@[simp] theorem State.setSp_y (s : State) (v : Byte) : (s.setSp v).cpu.y = s.cpu.y := rfl

@[simp] theorem State.setSp_sp (s : State) (v : Byte) : (s.setSp v).cpu.sp = v := rfl

@[simp] theorem State.setSp_pc (s : State) (v : Byte) : (s.setSp v).cpu.pc = s.cpu.pc := rfl

@[simp] theorem State.setSp_p (s : State) (v : Byte) : (s.setSp v).cpu.p = s.cpu.p := rfl

@[simp] theorem State.setSp_cyc (s : State) (v : Byte) : (s.setSp v).cyc = s.cyc := rfl

@[simp] theorem State.setSp_ram (s : State) (v : Byte) : (s.setSp v).ram = s.ram := rfl

@[simp] theorem State.setSp_tia (s : State) (v : Byte) : (s.setSp v).tia = s.tia := rfl

@[simp] theorem State.setSp_riot (s : State) (v : Byte) : (s.setSp v).riot = s.riot := rfl

@[simp] theorem State.setSp_map (s : State) (v : Byte) : (s.setSp v).map = s.map := rfl

@[simp] theorem State.setSp_dbus (s : State) (v : Byte) : (s.setSp v).dbus = s.dbus := rfl

@[simp] theorem State.setSp_fault (s : State) (v : Byte) : (s.setSp v).fault = s.fault := rfl

@[simp] theorem State.setSp_par (s : State) (v : Byte) : (s.setSp v).par = s.par := rfl

@[simp] theorem State.setSp_inp (s : State) (v : Byte) : (s.setSp v).inp = s.inp := rfl

@[simp] theorem State.setSp_pending (s : State) (v : Byte) : (s.setSp v).pending = s.pending := rfl

@[simp] theorem State.setSp_out (s : State) (v : Byte) : (s.setSp v).out = s.out := rfl

theorem State.setPc_eq (s : State) (t : Word) : s.setPc t = s.setCpu { s.cpu with pc := t } := rfl

@[simp] theorem State.setPc_a (s : State) (t : Word) : (s.setPc t).cpu.a = s.cpu.a := rfl

@[simp] theorem State.setPc_x (s : State) (t : Word) : (s.setPc t).cpu.x = s.cpu.x := rfl

@[simp] theorem State.setPc_y (s : State) (t : Word) : (s.setPc t).cpu.y = s.cpu.y := rfl

@[simp] theorem State.setPc_sp (s : State) (t : Word) : (s.setPc t).cpu.sp = s.cpu.sp := rfl

@[simp] theorem State.setPc_pc (s : State) (t : Word) : (s.setPc t).cpu.pc = t := rfl

@[simp] theorem State.setPc_p (s : State) (t : Word) : (s.setPc t).cpu.p = s.cpu.p := rfl

@[simp] theorem State.setPc_cyc (s : State) (t : Word) : (s.setPc t).cyc = s.cyc := rfl

@[simp] theorem State.setPc_ram (s : State) (t : Word) : (s.setPc t).ram = s.ram := rfl

@[simp] theorem State.setPc_tia (s : State) (t : Word) : (s.setPc t).tia = s.tia := rfl

@[simp] theorem State.setPc_riot (s : State) (t : Word) : (s.setPc t).riot = s.riot := rfl

@[simp] theorem State.setPc_map (s : State) (t : Word) : (s.setPc t).map = s.map := rfl

@[simp] theorem State.setPc_dbus (s : State) (t : Word) : (s.setPc t).dbus = s.dbus := rfl

@[simp] theorem State.setPc_fault (s : State) (t : Word) : (s.setPc t).fault = s.fault := rfl

@[simp] theorem State.setPc_par (s : State) (t : Word) : (s.setPc t).par = s.par := rfl

@[simp] theorem State.setPc_inp (s : State) (t : Word) : (s.setPc t).inp = s.inp := rfl

@[simp] theorem State.setPc_pending (s : State) (t : Word) : (s.setPc t).pending = s.pending := rfl

@[simp] theorem State.setPc_out (s : State) (t : Word) : (s.setPc t).out = s.out := rfl

theorem State.setP_eq (s : State) (p : Flags) : s.setP p = s.setCpu { s.cpu with p := p } := rfl

@[simp] theorem State.setP_a (s : State) (p : Flags) : (s.setP p).cpu.a = s.cpu.a := rfl

@[simp] theorem State.setP_x (s : State) (p : Flags) : (s.setP p).cpu.x = s.cpu.x := rfl

@[simp] theorem State.setP_y (s : State) (p : Flags) : (s.setP p).cpu.y = s.cpu.y := rfl

@[simp] theorem State.setP_sp (s : State) (p : Flags) : (s.setP p).cpu.sp = s.cpu.sp := rfl

@[simp] theorem State.setP_pc (s : State) (p : Flags) : (s.setP p).cpu.pc = s.cpu.pc := rfl

@[simp] theorem State.setP_p (s : State) (p : Flags) : (s.setP p).cpu.p = p := rfl

@[simp] theorem State.setP_cyc (s : State) (p : Flags) : (s.setP p).cyc = s.cyc := rfl

@[simp] theorem State.setP_ram (s : State) (p : Flags) : (s.setP p).ram = s.ram := rfl

@[simp] theorem State.setP_tia (s : State) (p : Flags) : (s.setP p).tia = s.tia := rfl

@[simp] theorem State.setP_riot (s : State) (p : Flags) : (s.setP p).riot = s.riot := rfl

@[simp] theorem State.setP_map (s : State) (p : Flags) : (s.setP p).map = s.map := rfl

@[simp] theorem State.setP_dbus (s : State) (p : Flags) : (s.setP p).dbus = s.dbus := rfl

@[simp] theorem State.setP_fault (s : State) (p : Flags) : (s.setP p).fault = s.fault := rfl

@[simp] theorem State.setP_par (s : State) (p : Flags) : (s.setP p).par = s.par := rfl

@[simp] theorem State.setP_inp (s : State) (p : Flags) : (s.setP p).inp = s.inp := rfl

@[simp] theorem State.setP_pending (s : State) (p : Flags) : (s.setP p).pending = s.pending := rfl

@[simp] theorem State.setP_out (s : State) (p : Flags) : (s.setP p).out = s.out := rfl

theorem State.setNZ_eq (s : State) (v : Byte) :
    s.setNZ v = s.setCpu { s.cpu with p := Machine.setNZ v s.cpu.p } := rfl

theorem State.setAlu_eq (s : State) (r : Alu) :
    s.setAlu r = s.setCpu { s.cpu with a := r.value, p := r.p } := rfl

theorem State.setLogic_eq (s : State) (v : Byte) :
    s.setLogic v = s.setCpu { s.cpu with a := v, p := Machine.setNZ v s.cpu.p } := rfl

end Sys2Proof.Machine
end

