-- ==== Sys2Proof/Laws/Bus.lean ====
section
/-!
SUPPORT. The bus: what a CPU cycle of time, the WSYNC hold, a read cycle and a write cycle leave unchanged, and that
none of them looks at the registers.
-/

namespace Sys2Proof.Machine

/-! ### One chip-cycle and one CPU cycle of time

Each lemma is proved from the one below it: unfolding `tiaClock` to compare whole states is slow. -/

@[simp] theorem clockTia_cpu (s : State) : (clockTia s).cpu = s.cpu := by simp only [clockTia]

@[simp] theorem clockTia_cyc (s : State) : (clockTia s).cyc = s.cyc := by simp only [clockTia]

@[simp] theorem clockTia_ram (s : State) : (clockTia s).ram = s.ram := by simp only [clockTia]

@[simp] theorem clockTia_riot (s : State) : (clockTia s).riot = s.riot := by simp only [clockTia]

@[simp] theorem clockTia_map (s : State) : (clockTia s).map = s.map := by simp only [clockTia]

@[simp] theorem clockTia_dbus (s : State) : (clockTia s).dbus = s.dbus := by simp only [clockTia]

@[simp] theorem clockTia_fault (s : State) : (clockTia s).fault = s.fault := by simp only [clockTia]

@[simp] theorem clockTia_par (s : State) : (clockTia s).par = s.par := by simp only [clockTia]

@[simp] theorem clockTia_inp (s : State) : (clockTia s).inp = s.inp := by simp only [clockTia]

@[simp] theorem clockTia_pending (s : State) : (clockTia s).pending = s.pending := by simp only [clockTia]

@[simp] theorem clockTia_tia (s : State) : (clockTia s).tia = (tiaClock s.par s.inp s.tia).1 := by
  simp only [clockTia]

@[simp] theorem clockTia_out (s : State) : (clockTia s).out = (tiaClock s.par s.inp s.tia).2 ++ s.out := by
  simp only [clockTia]

@[simp] theorem clockTia_setCpu (s : State) (c : Cpu) : clockTia (s.setCpu c) = (clockTia s).setCpu c := by
  simp only [clockTia, State.setCpu]

@[simp] theorem advanceChips_cyc (s : State) : (advanceChips s).cyc = s.cyc + 1 := by
  simp only [advanceChips, clockTia_cyc]

@[simp] theorem advanceChips_riot (s : State) : (advanceChips s).riot = riotTick s.riot := by
  simp only [advanceChips, clockTia_riot]

/-- The TIA after one CPU cycle: three chip-cycles (rule R62). -/
theorem advanceChips_tia (s : State) :
    (advanceChips s).tia =
      (tiaClock s.par s.inp (tiaClock s.par s.inp (tiaClock s.par s.inp s.tia).1).1).1 := by
  simp only [advanceChips, clockTia_tia, clockTia_par, clockTia_inp]

@[simp] theorem advanceChips_cpu (s : State) : (advanceChips s).cpu = s.cpu := by
  simp only [advanceChips, clockTia_cpu]

@[simp] theorem advanceChips_ram (s : State) : (advanceChips s).ram = s.ram := by
  simp only [advanceChips, clockTia_ram]

@[simp] theorem advanceChips_map (s : State) : (advanceChips s).map = s.map := by
  simp only [advanceChips, clockTia_map]

@[simp] theorem advanceChips_dbus (s : State) : (advanceChips s).dbus = s.dbus := by
  simp only [advanceChips, clockTia_dbus]

@[simp] theorem advanceChips_fault (s : State) : (advanceChips s).fault = s.fault := by
  simp only [advanceChips, clockTia_fault]

@[simp] theorem advanceChips_par (s : State) : (advanceChips s).par = s.par := by
  simp only [advanceChips, clockTia_par]

@[simp] theorem advanceChips_inp (s : State) : (advanceChips s).inp = s.inp := by
  simp only [advanceChips, clockTia_inp]

@[simp] theorem advanceChips_pending (s : State) : (advanceChips s).pending = s.pending := by
  simp only [advanceChips, clockTia_pending]

@[simp] theorem advanceChips_setCpu (s : State) (c : Cpu) :
    advanceChips (s.setCpu c) = (advanceChips s).setCpu c := by
  simp only [advanceChips, clockTia_setCpu]
  generalize clockTia (clockTia (clockTia s)) = u
  rfl

/-! ### The hold -/

/-- The hold is some number of CPU cycles of time and nothing else. -/
theorem holdFor_iterate (n : Nat) (s : State) : ∃ k, k ≤ n ∧ holdFor n s = advanceChips^[k] s := by
  induction n generalizing s with
  | zero => exact ⟨0, Nat.le_refl 0, rfl⟩
  | succ n ih =>
    unfold holdFor
    split
    · obtain ⟨k, hk, he⟩ := ih (advanceChips s)
      exact ⟨k + 1, by omega, by rw [he, Function.iterate_succ_apply]⟩
    · exact ⟨0, by omega, rfl⟩

theorem hold_iterate (s : State) : ∃ k, k ≤ 76 ∧ hold s = advanceChips^[k] s := holdFor_iterate 76 s

/-- A property that one CPU cycle of time keeps, the hold keeps. -/
theorem hold_induct {p : State → Prop} (hp : ∀ s, p s → p (advanceChips s)) {s : State} (h : p s) :
    p (hold s) := by
  obtain ⟨k, -, he⟩ := hold_iterate s
  rw [he]
  clear he
  induction k generalizing s with
  | zero => exact h
  | succ k ih => exact ih (hp s h)

/-- A machine that is not held is not held up. -/
theorem hold_of_free {s : State} (h : s.tia.beam.wsync = false) : hold s = s := by
  simp [hold, holdFor, h]

@[simp] theorem hold_cpu (s : State) : (hold s).cpu = s.cpu :=
  hold_induct (p := fun u => u.cpu = s.cpu) (fun u h => (advanceChips_cpu u).trans h) rfl

@[simp] theorem hold_ram (s : State) : (hold s).ram = s.ram :=
  hold_induct (p := fun u => u.ram = s.ram) (fun u h => (advanceChips_ram u).trans h) rfl

@[simp] theorem hold_map (s : State) : (hold s).map = s.map :=
  hold_induct (p := fun u => u.map = s.map) (fun u h => (advanceChips_map u).trans h) rfl

@[simp] theorem hold_dbus (s : State) : (hold s).dbus = s.dbus :=
  hold_induct (p := fun u => u.dbus = s.dbus) (fun u h => (advanceChips_dbus u).trans h) rfl

@[simp] theorem hold_fault (s : State) : (hold s).fault = s.fault :=
  hold_induct (p := fun u => u.fault = s.fault) (fun u h => (advanceChips_fault u).trans h) rfl

@[simp] theorem hold_par (s : State) : (hold s).par = s.par :=
  hold_induct (p := fun u => u.par = s.par) (fun u h => (advanceChips_par u).trans h) rfl

@[simp] theorem hold_inp (s : State) : (hold s).inp = s.inp :=
  hold_induct (p := fun u => u.inp = s.inp) (fun u h => (advanceChips_inp u).trans h) rfl

@[simp] theorem hold_pending (s : State) : (hold s).pending = s.pending :=
  hold_induct (p := fun u => u.pending = s.pending) (fun u h => (advanceChips_pending u).trans h) rfl

theorem holdFor_setCpu (n : Nat) (s : State) (c : Cpu) : holdFor n (s.setCpu c) = (holdFor n s).setCpu c := by
  induction n generalizing s with
  | zero => rfl
  | succ n ih =>
    simp only [holdFor, State.setCpu_tia, advanceChips_setCpu, ih]
    split <;> rfl

@[simp] theorem hold_setCpu (s : State) (c : Cpu) : hold (s.setCpu c) = (hold s).setCpu c := holdFor_setCpu 76 s c

/-! ### The mapper -/

@[simp] theorem triggered_scheme (off : BitVec 12) (m : Mapper) : (triggered off m).scheme = m.scheme := rfl

@[simp] theorem triggered_size (off : BitVec 12) (m : Mapper) : (triggered off m).size = m.size := rfl

@[simp] theorem triggered_rom (off : BitVec 12) (m : Mapper) : (triggered off m).rom = m.rom := rfl

@[simp] theorem triggered_ram (off : BitVec 12) (m : Mapper) : (triggered off m).ram = m.ram := rfl

/-- The image, its size and its scheme are the same in two mapper states (rule R33). -/
def SameImage (m n : Mapper) : Prop := m.rom = n.rom ∧ m.size = n.size ∧ m.scheme = n.scheme

theorem SameImage.refl (m : Mapper) : SameImage m m := ⟨rfl, rfl, rfl⟩

theorem SameImage.trans {m n k : Mapper} (h : SameImage m n) (g : SameImage n k) : SameImage m k :=
  ⟨h.1.trans g.1, h.2.1.trans g.2.1, h.2.2.trans g.2.2⟩

theorem snoop_image (kind : Access) (a : BitVec 13) (v : Byte) (m : Mapper) : SameImage (snoop kind a v m) m := by
  unfold snoop
  repeat' split
  all_goals exact ⟨rfl, rfl, rfl⟩

theorem mapRead_image (off : BitVec 12) (dbus : Byte) (m : Mapper) : SameImage (mapRead off dbus m).2 m := by
  unfold mapRead
  simp only
  repeat' split
  all_goals exact ⟨rfl, rfl, rfl⟩

theorem mapWrite_image (off : BitVec 12) (v : Byte) (m : Mapper) : SameImage (mapWrite off v m) m := by
  unfold mapWrite
  simp only
  split <;> exact ⟨rfl, rfl, rfl⟩

/-- Snooping leaves the cartridge RAM alone. -/
@[simp] theorem snoop_ram (kind : Access) (a : BitVec 13) (v : Byte) (m : Mapper) : (snoop kind a v m).ram = m.ram := by
  unfold snoop
  repeat' split
  all_goals rfl

/-- Snooping a read changes nothing (rule R118). -/
@[simp] theorem snoop_read (a : BitVec 13) (v : Byte) (m : Mapper) : snoop .read a v m = m := rfl

/-! ### A read cycle -/

theorem routeWrite_fields (a : BitVec 13) (v : Byte) (s : State) :
    routeWrite a v s =
      { s with ram := (routeWrite a v s).ram, tia := (routeWrite a v s).tia, riot := (routeWrite a v s).riot,
               map := (routeWrite a v s).map, fault := (routeWrite a v s).fault, out := (routeWrite a v s).out } := by
  simp only [routeWrite]
  split <;> rfl

/-- The fields a routed read can change are the RIOT and the mapper. -/
theorem routeRead_fields (a : BitVec 13) (s : State) :
    (routeRead a s).2 = { s with riot := (routeRead a s).2.riot, map := (routeRead a s).2.map } := by
  unfold routeRead
  simp only [snoop_read]
  split <;> rfl

theorem routeRead_setCpu (a : BitVec 13) (s : State) (c : Cpu) :
    routeRead a (s.setCpu c) = ((routeRead a s).1, (routeRead a s).2.setCpu c) := by
  unfold routeRead
  simp only [snoop_read]
  cases decodeBus a <;> rfl

theorem routeRead_image (a : BitVec 13) (s : State) : SameImage (routeRead a s).2.map s.map := by
  unfold routeRead
  simp only [snoop_read]
  split
  · exact mapRead_image _ _ _
  all_goals exact SameImage.refl _

theorem routeRead_cyc (a : BitVec 13) (s : State) : (routeRead a s).2.cyc = s.cyc := by rw [routeRead_fields]

theorem readNoCycle_setCpu (addr : Word) (s : State) (c : Cpu) :
    readNoCycle addr (s.setCpu c) = ((readNoCycle addr s).1, (readNoCycle addr s).2.setCpu c) := by
  simp only [readNoCycle, routeRead_setCpu]
  rfl

/-- A read cycle does not look at the registers. -/
@[simp] theorem rd_setCpu (addr : Word) (s : State) (c : Cpu) :
    rd addr (s.setCpu c) = ((rd addr s).1, (rd addr s).2.setCpu c) := by
  simp only [rd, hold_setCpu, advanceChips_setCpu, readNoCycle_setCpu]

@[simp] theorem rd_cpu (addr : Word) (s : State) : (rd addr s).2.cpu = s.cpu := by
  simp only [rd, readNoCycle]
  rw [routeRead_fields]
  simp

@[simp] theorem rd_ram (addr : Word) (s : State) : (rd addr s).2.ram = s.ram := by
  simp only [rd, readNoCycle]
  rw [routeRead_fields]
  simp

@[simp] theorem rd_fault (addr : Word) (s : State) : (rd addr s).2.fault = s.fault := by
  simp only [rd, readNoCycle]
  rw [routeRead_fields]
  simp

@[simp] theorem rd_par (addr : Word) (s : State) : (rd addr s).2.par = s.par := by
  simp only [rd, readNoCycle]
  rw [routeRead_fields]
  simp

@[simp] theorem rd_inp (addr : Word) (s : State) : (rd addr s).2.inp = s.inp := by
  simp only [rd, readNoCycle]
  rw [routeRead_fields]
  simp

@[simp] theorem rd_pending (addr : Word) (s : State) : (rd addr s).2.pending = s.pending := by
  simp only [rd, readNoCycle]
  rw [routeRead_fields]
  simp

/-- After a read the bus holds the value read (rules R34, R62). -/
@[simp] theorem rd_dbus (addr : Word) (s : State) : (rd addr s).2.dbus = (rd addr s).1 := rfl

theorem rd_image (addr : Word) (s : State) : SameImage (rd addr s).2.map s.map := by
  have h := routeRead_image (busAddr addr) (advanceChips (hold s))
  simpa [rd, readNoCycle] using h

/-- The TIA after a read: only time has passed. -/
theorem rd_tia (addr : Word) (s : State) : (rd addr s).2.tia = (advanceChips (hold s)).tia := by
  simp only [rd, readNoCycle]
  rw [routeRead_fields]

theorem rd_cyc (addr : Word) (s : State) : (rd addr s).2.cyc = (hold s).cyc + 1 := by
  simp only [rd, readNoCycle]
  rw [routeRead_fields]
  simp

/-! ### A write cycle -/

/-- Whether a write at an address raises under the policy of the machine (rule R373). -/
def raisesAt (addr : Word) (s : State) : Prop :=
  decodeBus (busAddr addr) = .tia 0x03 ∧ s.par.rsyncPolicy = .fault

theorem wr_setCpu (addr : Word) (v : Byte) (s : State) (c : Cpu) :
    wr addr v (s.setCpu c) = (wr addr v s).setCpu c := by
  simp only [wr, advanceChips_setCpu]
  generalize advanceChips s = u
  simp only [routeWrite, State.setCpu]
  cases decodeBus (busAddr addr) <;> rfl

@[simp] theorem wr_cpu (addr : Word) (v : Byte) (s : State) : (wr addr v s).cpu = s.cpu := by
  simp only [wr]
  rw [routeWrite_fields]
  simp only [advanceChips_cpu]

@[simp] theorem wr_par (addr : Word) (v : Byte) (s : State) : (wr addr v s).par = s.par := by
  simp only [wr]
  rw [routeWrite_fields]
  simp only [advanceChips_par]

@[simp] theorem wr_inp (addr : Word) (v : Byte) (s : State) : (wr addr v s).inp = s.inp := by
  simp only [wr]
  rw [routeWrite_fields]
  simp only [advanceChips_inp]

@[simp] theorem wr_pending (addr : Word) (v : Byte) (s : State) : (wr addr v s).pending = s.pending := by
  simp only [wr]
  rw [routeWrite_fields]
  simp only [advanceChips_pending]

@[simp] theorem wr_cyc (addr : Word) (v : Byte) (s : State) : (wr addr v s).cyc = s.cyc + 1 := by
  simp only [wr]
  rw [routeWrite_fields]
  simp only [advanceChips_cyc]

/-- After a write the bus holds the value written (rules R34, R62). -/
@[simp] theorem wr_dbus (addr : Word) (v : Byte) (s : State) : (wr addr v s).dbus = v := by
  simp only [wr]
  rw [routeWrite_fields]

theorem wr_image (addr : Word) (v : Byte) (s : State) : SameImage (wr addr v s).map s.map := by
  simp only [wr, routeWrite, advanceChips_map]
  split
  · exact (mapWrite_image _ _ _).trans (snoop_image _ _ _ _)
  all_goals exact snoop_image _ _ _ _

/-- The RAM after a write: the one byte stored where the address is RAM, nothing otherwise (rule R66). -/
theorem wr_ram (addr : Word) (v : Byte) (s : State) :
    (wr addr v s).ram = match decodeBus (busAddr addr) with
      | .ram i => writeCell s.ram i.toNat v
      | _ => s.ram := by
  simp only [wr, routeWrite]
  cases decodeBus (busAddr addr) <;> simp only [writeTia, advanceChips_ram]

/-- A write that does not raise leaves `fault` alone. -/
theorem wr_fault {addr : Word} {s : State} (v : Byte) (h : ¬ raisesAt addr s) : (wr addr v s).fault = s.fault := by
  simp only [wr, routeWrite]
  split
  · simp only [advanceChips_fault]
  · rename_i reg he
    simp only [writeTia, advanceChips_par, advanceChips_fault]
    rw [if_neg]
    rintro ⟨rfl, hp⟩
    exact h ⟨he, hp⟩
  · simp only [advanceChips_fault]
  · simp only [advanceChips_fault]

/-- A write that raises leaves a record in `fault`. -/
theorem wr_raises {addr : Word} {s : State} (v : Byte) (h : raisesAt addr s) : (wr addr v s).fault ≠ none := by
  simp [wr, routeWrite, h.1, writeTia, h.2]

end Sys2Proof.Machine
end

