-- ==== Sys2Proof/Laws/Cycles.lean ====
section
/-!
SUPPORT. The shared operations as lists of bus cycles: each of them leaves the state that its list of cycles leads to,
with some registers replaced.  A state is written `(busCycles l s).setCpu c` throughout.
-/

namespace Sys2Proof.Machine

/-! ### Lists of bus cycles -/

@[simp] theorem busCycles_nil (s : State) : busCycles [] s = s := rfl

theorem busCycles_append (l k : List BusCycle) (s : State) : busCycles (l ++ k) s = busCycles k (busCycles l s) := by
  induction l generalizing s with
  | nil => rfl
  | cons c rest ih => exact ih (busCycle c s)

theorem busCycle_setCpu (b : BusCycle) (s : State) (c : Cpu) : busCycle b (s.setCpu c) = (busCycle b s).setCpu c := by
  cases b with
  | read a => simp only [busCycle, rd_setCpu]
  | write a v => simp only [busCycle, wr_setCpu]

@[simp] theorem busCycles_setCpu (l : List BusCycle) (s : State) (c : Cpu) :
    busCycles l (s.setCpu c) = (busCycles l s).setCpu c := by
  induction l generalizing s with
  | nil => rfl
  | cons b rest ih => rw [busCycles, busCycle_setCpu, ih, busCycles]

/-- A property that a read cycle and a write cycle keep, a list of bus cycles keeps. -/
theorem busCycles_induct {p : State → Prop} (l : List BusCycle)
    (hr : ∀ a s, .read a ∈ l → p s → p (rd a s).2) (hw : ∀ a v s, .write a v ∈ l → p s → p (wr a v s))
    {s : State} (h : p s) : p (busCycles l s) := by
  induction l generalizing s with
  | nil => exact h
  | cons b rest ih =>
    refine ih (fun a s m => hr a s (List.mem_cons_of_mem _ m)) (fun a v s m => hw a v s (List.mem_cons_of_mem _ m)) ?_
    cases b with
    | read a => exact hr a s (List.mem_cons_self ..) h
    | write a v => exact hw a v s (List.mem_cons_self ..) h

@[simp] theorem busCycles_cpu (l : List BusCycle) (s : State) : (busCycles l s).cpu = s.cpu :=
  busCycles_induct (p := fun u => u.cpu = s.cpu) l (fun a u _ h => (rd_cpu a u).trans h)
    (fun a v u _ h => (wr_cpu a v u).trans h) rfl

@[simp] theorem busCycles_par (l : List BusCycle) (s : State) : (busCycles l s).par = s.par :=
  busCycles_induct (p := fun u => u.par = s.par) l (fun a u _ h => (rd_par a u).trans h)
    (fun a v u _ h => (wr_par a v u).trans h) rfl

@[simp] theorem busCycles_inp (l : List BusCycle) (s : State) : (busCycles l s).inp = s.inp :=
  busCycles_induct (p := fun u => u.inp = s.inp) l (fun a u _ h => (rd_inp a u).trans h)
    (fun a v u _ h => (wr_inp a v u).trans h) rfl

@[simp] theorem busCycles_pending (l : List BusCycle) (s : State) : (busCycles l s).pending = s.pending :=
  busCycles_induct (p := fun u => u.pending = s.pending) l (fun a u _ h => (rd_pending a u).trans h)
    (fun a v u _ h => (wr_pending a v u).trans h) rfl

theorem busCycles_image (l : List BusCycle) (s : State) : SameImage (busCycles l s).map s.map :=
  busCycles_induct (p := fun u => SameImage u.map s.map) l (fun a u _ h => (rd_image a u).trans h)
    (fun a v u _ h => (wr_image a v u).trans h) (SameImage.refl _)

theorem writesRsync_append (l k : List BusCycle) : writesRsync (l ++ k) = (writesRsync l || writesRsync k) :=
  List.any_append

theorem not_raisesAt_of_quiet {l : List BusCycle} {s u : State} {a : Word} {v : Byte} (hq : Quiet l s)
    (hp : u.par = s.par) (hm : .write a v ∈ l) : ¬ raisesAt a u := by
  rintro ⟨hd, hf⟩
  rcases hq with hq | hq
  · have : writesRsync l = true := List.any_eq_true.mpr ⟨_, hm, by simp [hd]⟩
    simp [this] at hq
  · rw [hp, hq] at hf
    cases hf

/-- A list of cycles that does not raise leaves `fault` alone. -/
theorem busCycles_fault {l : List BusCycle} {s : State} (hq : Quiet l s) : (busCycles l s).fault = s.fault :=
  (busCycles_induct (p := fun u => u.fault = s.fault ∧ u.par = s.par) l
    (fun a u _ h => ⟨(rd_fault a u).trans h.1, (rd_par a u).trans h.2⟩)
    (fun a v u m h => ⟨(wr_fault v (not_raisesAt_of_quiet hq h.2 m)).trans h.1, (wr_par a v u).trans h.2⟩)
    ⟨rfl, rfl⟩).1

/-- A record in `fault` is never taken away by a bus cycle. -/
theorem busCycles_fault_kept (l : List BusCycle) {s : State} (h : s.fault ≠ none) : (busCycles l s).fault ≠ none :=
  busCycles_induct (p := fun u => u.fault ≠ none) l (fun a u _ h => by rwa [rd_fault])
    (fun a v u _ h => by
      by_cases hr : raisesAt a u
      · exact wr_raises v hr
      · rwa [wr_fault v hr]) h

/-- A list of cycles that raises leaves a record in `fault`. -/
theorem busCycles_raises {l : List BusCycle} {s : State} (h : ¬ Quiet l s) : (busCycles l s).fault ≠ none := by
  induction l generalizing s with
  | nil => exact absurd (.inl rfl) h
  | cons b rest ih =>
    cases b with
    | read a =>
      refine ih fun hq => h ?_
      rcases hq with hq | hq
      · exact .inl hq
      · exact .inr (by simpa [busCycle] using hq)
    | write a v =>
      by_cases hr : raisesAt a s
      · exact busCycles_fault_kept rest (wr_raises v hr)
      · refine ih fun hq => h ?_
        rcases hq with hq | hq
        · by_cases hd : decodeBus (busAddr a) = .tia 0x03
          · right
            cases hp : s.par.rsyncPolicy with
            | ignore => rfl
            | fault => exact absurd ⟨hd, hp⟩ hr
          · left
            rw [writesRsync, List.any_cons, Bool.or_eq_false_iff]
            exact ⟨decide_eq_false hd, hq⟩
        · exact .inr (by simpa [busCycle] using hq)

/-! ### One more cycle -/

theorem rd_busCycles (a : Word) (l : List BusCycle) (s : State) :
    rd a (busCycles l s) = ((busCycles (l ++ [.read a]) s).dbus, busCycles (l ++ [.read a]) s) := by
  rw [busCycles_append]
  rfl

theorem wr_busCycles (a : Word) (v : Byte) (l : List BusCycle) (s : State) :
    wr a v (busCycles l s) = busCycles (l ++ [.write a v]) s := by
  rw [busCycles_append]
  rfl

theorem rd_cycles (a : Word) (l : List BusCycle) (s : State) (c : Cpu) :
    rd a ((busCycles l s).setCpu c) =
      ((busCycles (l ++ [.read a]) s).dbus, (busCycles (l ++ [.read a]) s).setCpu c) := by
  rw [rd_setCpu, rd_busCycles]

theorem wr_cycles (a : Word) (v : Byte) (l : List BusCycle) (s : State) (c : Cpu) :
    wr a v ((busCycles l s).setCpu c) = (busCycles (l ++ [.write a v]) s).setCpu c := by
  rw [wr_setCpu, wr_busCycles]

theorem dummyRead_cycles (a : Word) (l : List BusCycle) (s : State) (c : Cpu) :
    dummyRead a ((busCycles l s).setCpu c) = (busCycles (l ++ [.read a]) s).setCpu c := by
  rw [dummyRead, rd_cycles]

theorem idleCycle_cycles (l : List BusCycle) (s : State) (c : Cpu) :
    idleCycle ((busCycles l s).setCpu c) = (busCycles (l ++ [.read c.pc]) s).setCpu c := by
  rw [idleCycle, dummyRead_cycles, State.setCpu_cpu]

theorem push_cycles (v : Byte) (l : List BusCycle) (s : State) (c : Cpu) :
    push v ((busCycles l s).setCpu c) =
      (busCycles (l ++ [.write (stackByte c.sp) v]) s).setCpu { c with sp := c.sp - 1 } := by
  simp only [push, stackAddr, State.setCpu_cpu, wr_cycles, State.setSp_eq, State.setCpu_setCpu, stackByte]

theorem pull_cycles (l : List BusCycle) (s : State) (c : Cpu) :
    pull ((busCycles l s).setCpu c) =
      ((busCycles (l ++ [.read (stackByte (c.sp + 1))]) s).dbus,
       (busCycles (l ++ [.read (stackByte (c.sp + 1))]) s).setCpu { c with sp := c.sp + 1 }) := by
  simp only [pull, stackAddr, State.setSp_eq, State.setCpu_setCpu, State.setCpu_cpu, rd_cycles, stackByte]

theorem stackIdle_cycles (l : List BusCycle) (s : State) (c : Cpu) :
    stackIdle ((busCycles l s).setCpu c) = (busCycles (l ++ [.read (stackByte c.sp)]) s).setCpu c := by
  simp only [stackIdle, stackAddr, State.setCpu_cpu, dummyRead_cycles, stackByte]

/-! ### Fetching -/

theorem fetchCycles_from (n : Nat) (l : List BusCycle) (s : State) (c : Cpu) :
    fetchCycles n ((busCycles l s).setCpu c) =
      (busCycles (l ++ fetches n c.pc) s).setCpu { c with pc := c.pc + BitVec.ofNat 16 n } := by
  induction n generalizing l c with
  | zero => simp [fetchCycles, fetches]
  | succ n ih =>
    simp only [fetchCycles, fetchCycle, fetchByte, State.setCpu_cpu, rd_cycles, State.setPc_eq, State.setCpu_setCpu, ih,
      fetches]
    simp only [List.append_assoc, List.singleton_append, BitVec.ofNat_add]
    congr 2
    rw [BitVec.add_comm (BitVec.ofNat 16 n), ← BitVec.add_assoc]
    rfl

/-- The fetch cycles of an instruction of `n` bytes. -/
theorem fetchCycles_cycles (n : Nat) (s : State) :
    fetchCycles n s =
      (busCycles (fetches n s.cpu.pc) s).setCpu { s.cpu with pc := s.cpu.pc + BitVec.ofNat 16 n } :=
  fetchCycles_from n [] s s.cpu

theorem impliedCycles_cycles (s : State) :
    impliedCycles s = (busCycles (impliedList s) s).setCpu { s.cpu with pc := s.cpu.pc + 1 } := by
  have h : fetchCycle s = fetchCycles 1 s := rfl
  rw [impliedCycles, h, fetchCycles_cycles, idleCycle_cycles]
  rfl

theorem idleCycles_cycles (n : Nat) (l : List BusCycle) (s : State) (c : Cpu) :
    idleCycles n ((busCycles l s).setCpu c) = (busCycles (l ++ List.replicate n (.read c.pc)) s).setCpu c := by
  induction n generalizing l with
  | zero => simp [idleCycles]
  | succ n ih => rw [idleCycles, idleCycle_cycles, ih, List.replicate_succ, List.append_assoc]; rfl

/-! ### Addressing modes -/

section modes

variable (f : Form) (s : State)

theorem addrZp_cycles (h : f.mode = .zp) :
    addrZp f.b1 s = (f.effAddr s, (busCycles (f.addressCycles s) s).setCpu { s.cpu with pc := f.nextPc s }) := by
  simp only [addrZp, fetchCycles_cycles, Form.effAddr, Form.addressCycles, Form.leadCycles, Form.nextPc, Form.length,
    modeLength, h]

theorem addrZpX_cycles (h : f.mode = .zpx) :
    addrZpIndexed f.b1 s.cpu.x s =
      (f.effAddr s, (busCycles (f.addressCycles s) s).setCpu { s.cpu with pc := f.nextPc s }) := by
  simp only [addrZpIndexed, fetchCycles_cycles, dummyRead_cycles, Form.effAddr, Form.addressCycles, Form.leadCycles,
    Form.nextPc, Form.length, modeLength, h]

theorem addrZpY_cycles (h : f.mode = .zpy) :
    addrZpIndexed f.b1 s.cpu.y s =
      (f.effAddr s, (busCycles (f.addressCycles s) s).setCpu { s.cpu with pc := f.nextPc s }) := by
  simp only [addrZpIndexed, fetchCycles_cycles, dummyRead_cycles, Form.effAddr, Form.addressCycles, Form.leadCycles,
    Form.nextPc, Form.length, modeLength, h]

theorem addrAbs_cycles (h : f.mode = .abs) :
    addrAbs f.b1 f.b2 s =
      (f.effAddr s, (busCycles (f.addressCycles s) s).setCpu { s.cpu with pc := f.nextPc s }) := by
  simp only [addrAbs, fetchCycles_cycles, Form.effAddr, Form.addressCycles, Form.leadCycles, Form.nextPc, Form.length,
    modeLength, h]

theorem addrIzX_cycles (h : f.mode = .izx) :
    addrIzX f.b1 s = (f.effAddr s, (busCycles (f.addressCycles s) s).setCpu { s.cpu with pc := f.nextPc s }) := by
  have e : f.effAddr s = (addrIzX f.b1 s).1 := by simp only [Form.effAddr, h]
  rw [e]
  simp only [addrIzX, fetchCycles_cycles, dummyRead_cycles, rd_cycles, State.setCpu_cpu, Form.addressCycles,
    Form.leadCycles, Form.nextPc, Form.length, modeLength, h, List.append_assoc, List.cons_append, List.nil_append]

/-- The base of mode `izy`: the cycles that read the pointer. -/
theorem pointerIzY_cycles (h : f.mode = .izy) :
    pointerIzY f.b1 s =
      ((pointerIzY f.b1 s).1, (busCycles (f.leadCycles s) s).setCpu { s.cpu with pc := f.nextPc s }) := by
  simp only [pointerIzY, fetchCycles_cycles, rd_cycles, Form.leadCycles, Form.nextPc, Form.length, modeLength, h,
    List.append_assoc, List.cons_append, List.nil_append]

@[simp] theorem hiByte_word (hi lo : Byte) : hiByte (word hi lo) = hi := by
  apply BitVec.eq_of_toNat_eq
  simp only [hiByte, word, BitVec.extractLsb'_toNat, BitVec.toNat_append, Nat.shiftRight_eq_div_pow]
  rw [← Nat.shiftLeft_add_eq_or_of_lt lo.isLt, Nat.shiftLeft_eq]
  omega

@[simp] theorem loByte_word (hi lo : Byte) : loByte (word hi lo) = lo := by
  apply BitVec.eq_of_toNat_eq
  simp only [loByte, word, BitVec.extractLsb'_toNat, BitVec.toNat_append, Nat.shiftRight_zero]
  rw [← Nat.shiftLeft_add_eq_or_of_lt lo.isLt, Nat.shiftLeft_eq]
  omega

theorem uncorrected_word (hi lo i : Byte) : uncorrected (word hi lo) i = word hi (lo + i) := by
  rw [uncorrected, hiByte_word, loByte_word]

theorem addrAbsX_cycles (h : f.mode = .abx) :
    addrAbsX f.b1 f.b2 s =
      (f.effAddr s, (busCycles (f.addressCycles s) s).setCpu { s.cpu with pc := f.nextPc s }) := by
  simp only [addrAbsX, addrIndexed, addrAbs, fetchCycles_cycles, dummyRead_cycles, uncorrected_word, Form.effAddr,
    Form.partialAddr, Form.addressCycles, Form.leadCycles, Form.nextPc, Form.length, modeLength, h]

theorem addrAbsY_cycles (h : f.mode = .aby) :
    addrAbsY f.b1 f.b2 s =
      (f.effAddr s, (busCycles (f.addressCycles s) s).setCpu { s.cpu with pc := f.nextPc s }) := by
  simp only [addrAbsY, addrIndexed, addrAbs, fetchCycles_cycles, dummyRead_cycles, uncorrected_word, Form.effAddr,
    Form.partialAddr, Form.addressCycles, Form.leadCycles, Form.nextPc, Form.length, modeLength, h]

theorem addrIzY_cycles (h : f.mode = .izy) :
    addrIzY f.b1 s = (f.effAddr s, (busCycles (f.addressCycles s) s).setCpu { s.cpu with pc := f.nextPc s }) := by
  have e : f.effAddr s = (addrIzY f.b1 s).1 := by simp only [Form.effAddr, h]
  rw [e]
  simp only [addrIzY, addrIndexed]
  rw [pointerIzY_cycles f s h, dummyRead_cycles]
  simp only [Form.addressCycles, Form.partialAddr, h]

/-! ### The three operand classes -/

/-- A read of class read at an effective address that has no carry to wait for. -/
theorem readAt_cycles {e : Word × State} (hm : f.mode ≠ .imm)
    (ha : f.addressCycles s = f.leadCycles s) (hp : f.partialAddr s = f.effAddr s)
    (h : e = (f.effAddr s, (busCycles (f.addressCycles s) s).setCpu { s.cpu with pc := f.nextPc s })) :
    readAt e = (f.operand s, (busCycles (f.readCycles s) s).setCpu { s.cpu with pc := f.nextPc s }) := by
  have hr : f.readCycles s = f.addressCycles s ++ [.read (f.effAddr s)] := by
    unfold Form.readCycles
    split
    · contradiction
    all_goals rw [ha, Form.crosses, hp]; simp
  have ho : f.operand s = (busCycles (f.readCycles s) s).dbus := by
    unfold Form.operand
    split
    · contradiction
    all_goals rfl
  rw [h, readAt, rd_cycles, ho, hr]

/-- A read of an indexed mode of class read. -/
theorem readIndexed_cycles {i : Byte} {b : Word × State} (hm : f.mode = .abx ∨ f.mode = .aby ∨ f.mode = .izy)
    (hp : f.partialAddr s = uncorrected b.1 i) (he : f.effAddr s = indexed b.1 i)
    (hb : b.2 = (busCycles (f.leadCycles s) s).setCpu { s.cpu with pc := f.nextPc s }) :
    readIndexed i b = (f.operand s, (busCycles (f.readCycles s) s).setCpu { s.cpu with pc := f.nextPc s }) := by
  have hr : f.readCycles s =
      f.leadCycles s ++ .read (f.partialAddr s) :: if f.crosses s then [.read (f.effAddr s)] else [] := by
    rcases hm with h | h | h <;> simp only [Form.readCycles, h]
  have ho : f.operand s = (busCycles (f.readCycles s) s).dbus := by
    rcases hm with h | h | h <;> simp only [Form.operand, h]
  rw [readIndexed, ho, hr, hb, ← hp, ← he]
  simp only [rd_cycles, Form.crosses]
  split
  · rename_i hc
    simp [hc]
  · rename_i hc
    simp [hc]

theorem readImm_cycles (h : f.mode = .imm) :
    readImm f.b1 s = (f.operand s, (busCycles (f.readCycles s) s).setCpu { s.cpu with pc := f.nextPc s }) := by
  simp only [readImm, fetchCycles_cycles, Form.operand, Form.readCycles, Form.leadCycles, Form.nextPc, Form.length,
    modeLength, h]

theorem readZp_cycles (h : f.mode = .zp) :
    readZp f.b1 s = (f.operand s, (busCycles (f.readCycles s) s).setCpu { s.cpu with pc := f.nextPc s }) :=
  readAt_cycles f s (by simp [h]) (by simp only [Form.addressCycles, h]) (by simp only [Form.partialAddr, h])
    (addrZp_cycles f s h)

theorem readZpX_cycles (h : f.mode = .zpx) :
    readZpX f.b1 s = (f.operand s, (busCycles (f.readCycles s) s).setCpu { s.cpu with pc := f.nextPc s }) :=
  readAt_cycles f s (by simp [h]) (by simp only [Form.addressCycles, h]) (by simp only [Form.partialAddr, h])
    (addrZpX_cycles f s h)

theorem readZpY_cycles (h : f.mode = .zpy) :
    readZpY f.b1 s = (f.operand s, (busCycles (f.readCycles s) s).setCpu { s.cpu with pc := f.nextPc s }) :=
  readAt_cycles f s (by simp [h]) (by simp only [Form.addressCycles, h]) (by simp only [Form.partialAddr, h])
    (addrZpY_cycles f s h)

theorem readAbs_cycles (h : f.mode = .abs) :
    readAbs f.b1 f.b2 s = (f.operand s, (busCycles (f.readCycles s) s).setCpu { s.cpu with pc := f.nextPc s }) :=
  readAt_cycles f s (by simp [h]) (by simp only [Form.addressCycles, h]) (by simp only [Form.partialAddr, h])
    (addrAbs_cycles f s h)

theorem readIzX_cycles (h : f.mode = .izx) :
    readIzX f.b1 s = (f.operand s, (busCycles (f.readCycles s) s).setCpu { s.cpu with pc := f.nextPc s }) :=
  readAt_cycles f s (by simp [h]) (by simp only [Form.addressCycles, h]) (by simp only [Form.partialAddr, h])
    (addrIzX_cycles f s h)

theorem readAbsX_cycles (h : f.mode = .abx) :
    readAbsX f.b1 f.b2 s = (f.operand s, (busCycles (f.readCycles s) s).setCpu { s.cpu with pc := f.nextPc s }) := by
  refine readIndexed_cycles f s (.inl h) ?_ ?_ ?_
  · simp only [Form.partialAddr, h, addrAbs, uncorrected_word]
  · simp only [Form.effAddr, h, addrAbsX, addrIndexed]
  · simp only [addrAbs, fetchCycles_cycles, Form.leadCycles, Form.nextPc, Form.length, modeLength, h]

theorem readAbsY_cycles (h : f.mode = .aby) :
    readAbsY f.b1 f.b2 s = (f.operand s, (busCycles (f.readCycles s) s).setCpu { s.cpu with pc := f.nextPc s }) := by
  refine readIndexed_cycles f s (.inr (.inl h)) ?_ ?_ ?_
  · simp only [Form.partialAddr, h, addrAbs, uncorrected_word]
  · simp only [Form.effAddr, h, addrAbsY, addrIndexed]
  · simp only [addrAbs, fetchCycles_cycles, Form.leadCycles, Form.nextPc, Form.length, modeLength, h]

theorem readIzY_cycles (h : f.mode = .izy) :
    readIzY f.b1 s = (f.operand s, (busCycles (f.readCycles s) s).setCpu { s.cpu with pc := f.nextPc s }) := by
  refine readIndexed_cycles f s (.inr (.inr h)) ?_ ?_ ?_
  · simp only [Form.partialAddr, h]
  · simp only [Form.effAddr, h, addrIzY, addrIndexed]
  · rw [pointerIzY_cycles f s h]

/-- A store at an effective address. -/
theorem storeAt_cycles (v : Byte) {e : Word × State}
    (h : e = (f.effAddr s, (busCycles (f.addressCycles s) s).setCpu { s.cpu with pc := f.nextPc s })) :
    storeAt v e = (busCycles (f.writeCycles v s) s).setCpu { s.cpu with pc := f.nextPc s } := by
  rw [h, storeAt, wr_cycles, Form.writeCycles]

/-- A read-modify-write at an effective address. -/
theorem modifyAt_cycles (g : Byte → Flags → Alu) {e : Word × State}
    (h : e = (f.effAddr s, (busCycles (f.addressCycles s) s).setCpu { s.cpu with pc := f.nextPc s })) :
    modifyAt g e =
      ((g (f.rmwOperand s) s.cpu.p).value,
       (busCycles (f.rmwCycles (g (f.rmwOperand s) s.cpu.p).value s) s).setCpu
         { s.cpu with pc := f.nextPc s, p := (g (f.rmwOperand s) s.cpu.p).p }) := by
  rw [h]
  simp only [modifyAt, rd_cycles, wr_cycles, State.setCpu_cpu, State.setP_eq, State.setCpu_setCpu, Form.rmwCycles,
    Form.rmwOperand, List.append_assoc, List.cons_append, List.nil_append]

end modes

/-! ### The end of an instruction -/

theorem complete_none (op : Byte) (s : State) {t : State} (h : t.fault = none) : complete op s t = .next t := by
  simp only [complete, h]

theorem complete_some (op : Byte) (s : State) {t : State} (h : t.fault ≠ none) :
    complete op s t = .next (raise op s) := by
  unfold complete
  split
  · contradiction
  · rfl

/-- An instruction that makes a list of bus cycles and replaces registers completes where no cycle raises. -/
theorem complete_cycles (op : Byte) {s : State} {l : List BusCycle} (c : Cpu) (hf : s.fault = none) (hq : Quiet l s) :
    complete op s ((busCycles l s).setCpu c) = .next ((busCycles l s).setCpu c) :=
  complete_none op s (by rw [State.setCpu_fault, busCycles_fault hq, hf])

/-- It faults where a cycle raises, in the state before it. -/
theorem complete_raises (op : Byte) {s : State} {l : List BusCycle} (c : Cpu) (hq : ¬ Quiet l s) :
    complete op s ((busCycles l s).setCpu c) = .next (raise op s) :=
  complete_some op s (by rw [State.setCpu_fault]; exact busCycles_raises hq)

end Sys2Proof.Machine
end

