-- ==== Sys2Proof/Laws/Control.lean ====
section
/-!
SUPPORT. The shared operations of control flow, the traps and policy `nop` as lists of bus cycles.
-/

namespace Sys2Proof.Machine

/-! ### Stack pointer arithmetic -/

theorem sub_one_sub_one (a : Byte) : a - 1 - 1 = a - 2 := by bv_omega

theorem sub_two_sub_one (a : Byte) : a - 2 - 1 = a - 3 := by bv_omega

theorem add_one_add_one (a : Byte) : a + 1 + 1 = a + 2 := by bv_omega

theorem add_two_add_one (a : Byte) : a + 2 + 1 = a + 3 := by bv_omega

theorem ofNat_two : (BitVec.ofNat 16 2 : Word) = 2 := rfl

/-! ### Branches and jumps -/

/-- A branch makes the cycles of rule R158. -/
theorem branch_cycles (taken : Bool) (d : Byte) (s : State) :
    branch taken d s = (busCycles (branchCycles taken d s) s).setCpu
      { s.cpu with pc := if taken then s.cpu.pc + 2 + sext d else s.cpu.pc + 2 } := by
  simp only [branch, fetchCycles_cycles, branchCycles, branchTarget, State.setCpu_cpu, idleCycle_cycles,
    dummyRead_cycles]
  cases taken with
  | false => simp
  | true =>
    simp only [if_true]
    rw [ofNat_two]
    split
    all_goals simp only [State.setPc_eq, State.setCpu_setCpu, State.setCpu_cpu, List.append_assoc, List.cons_append,
      List.nil_append]

/-- JMP `(abs)` makes the cycles of rule R257. -/
theorem jumpIndirect_cycles (lo hi : Byte) (s : State) :
    jumpIndirect lo hi s =
      (busCycles (fetches 3 s.cpu.pc ++ [.read (word hi lo), .read (word hi (lo + 1))]) s).setCpu
        { s.cpu with
          pc := word (busCycles (fetches 3 s.cpu.pc ++ [.read (word hi lo), .read (word hi (lo + 1))]) s).dbus
            (busCycles (fetches 3 s.cpu.pc ++ [.read (word hi lo)]) s).dbus } := by
  simp only [jumpIndirect, fetchCycles_cycles, State.setPc_eq, State.setCpu_setCpu, State.setCpu_cpu, rd_cycles,
    List.append_assoc, List.cons_append, List.nil_append]

/-- JSR's stack cycles (rule R258 `c3` to `c5`). -/
theorem callCycles_cycles (l : List BusCycle) (s : State) (c : Cpu) :
    callCycles ((busCycles l s).setCpu c) =
      (busCycles (l ++ [.read (stackByte c.sp), .write (stackByte c.sp) (hiByte c.pc),
        .write (stackByte (c.sp - 1)) (loByte c.pc)]) s).setCpu { c with sp := c.sp - 2 } := by
  simp only [callCycles, pushPc, stackIdle_cycles, push_cycles, State.setCpu_cpu, List.append_assoc, List.cons_append,
    List.nil_append, sub_one_sub_one]

/-- RTS makes the cycles of rule R259. -/
theorem returnFromCall_cycles (s : State) :
    returnFromCall s =
      (busCycles (impliedList s ++ pullCycles 2 s.cpu.sp ++
          [.read (word (busCycles (impliedList s ++ pullCycles 2 s.cpu.sp) s).dbus
            (busCycles (impliedList s ++ pullCycles 1 s.cpu.sp) s).dbus)]) s).setCpu
        { s.cpu with
          sp := s.cpu.sp + 2
          pc := word (busCycles (impliedList s ++ pullCycles 2 s.cpu.sp) s).dbus
            (busCycles (impliedList s ++ pullCycles 1 s.cpu.sp) s).dbus + 1 } := by
  simp only [returnFromCall, impliedCycles_cycles, pullPc, stackIdle_cycles, pull_cycles, idleCycle_cycles,
    State.setPc_eq, State.setCpu_setCpu, State.setCpu_cpu, List.cons_append, List.nil_append, add_one_add_one,
    pullCycles, impliedList]

/-! ### Traps -/

/-- PLP's pull (rule R186): the status byte after a dummy read at the stack pointer. -/
theorem pullFlags_cycles (s : State) :
    pullFlags (stackIdle (impliedCycles s)) =
      (busCycles (impliedList s ++ pullCycles 1 s.cpu.sp) s).setCpu
        { s.cpu with
          pc := s.cpu.pc + 1
          sp := s.cpu.sp + 1
          p := flagsOf (busCycles (impliedList s ++ pullCycles 1 s.cpu.sp) s).dbus } := by
  simp only [pullFlags, impliedCycles_cycles, stackIdle_cycles, pull_cycles, State.setP_eq, State.setCpu_setCpu,
    State.setCpu_cpu, List.cons_append, List.nil_append, pullCycles, impliedList]

/-- RTI makes the cycles of rule R263. -/
theorem returnFromTrap_cycles (s : State) :
    returnFromTrap (impliedCycles s) =
      (busCycles (impliedList s ++ pullCycles 3 s.cpu.sp) s).setCpu
        { s.cpu with
          sp := s.cpu.sp + 3
          p := flagsOf (busCycles (impliedList s ++ pullCycles 1 s.cpu.sp) s).dbus
          pc := word (busCycles (impliedList s ++ pullCycles 3 s.cpu.sp) s).dbus
            (busCycles (impliedList s ++ pullCycles 2 s.cpu.sp) s).dbus } := by
  simp only [returnFromTrap, pullPc, pullFlags, impliedCycles_cycles, stackIdle_cycles, pull_cycles, State.setP_eq,
    State.setPc_eq, State.setCpu_setCpu, State.setCpu_cpu, List.cons_append, List.nil_append, pullCycles, impliedList,
    add_one_add_one, add_two_add_one]

/-- The pushes of a trap and the low byte of its vector (rule R262 `c3` to `c6`). -/
def trapList (s : State) : List BusCycle :=
  fetches 2 s.cpu.pc ++
    [.write (stackByte s.cpu.sp) (hiByte (s.cpu.pc + 2)), .write (stackByte (s.cpu.sp - 1)) (loByte (s.cpu.pc + 2)),
     .write (stackByte (s.cpu.sp - 2)) (statusByte s.cpu.p), .read 0xFFFE]

/-- BRK makes the cycles of rule R262. -/
theorem takeTrap_cycles (s : State) :
    takeTrap (fetchCycles 2 s) =
      (busCycles (trapList s ++ [.read 0xFFFF]) s).setCpu
        { s.cpu with
          sp := s.cpu.sp - 3
          p := { s.cpu.p with i := true }
          pc := word (busCycles (trapList s ++ [.read 0xFFFF]) s).dbus (busCycles (trapList s) s).dbus } := by
  have hv : (0xFFFE : Word) + 1 = 0xFFFF := rfl
  simp only [takeTrap, readVector, pushPc, fetchCycles_cycles, push_cycles, rd_cycles, State.setP_eq, trapList, hv,
    ofNat_two, State.setPc_eq, State.setCpu_setCpu, State.setCpu_cpu, List.append_assoc, List.cons_append,
    List.nil_append, sub_one_sub_one, sub_two_sub_one]

/-! ### Policy `nop` -/

/-- Policy `nop` makes the cycles of rule R282. -/
theorem nopPolicy_cycles (f : Form) (s : State) :
    nopPolicy f.length f.cycles s = (busCycles (nopCycles f s) s).setCpu { s.cpu with pc := f.nextPc s } := by
  rw [nopPolicy, fetchCycles_cycles, idleCycles_cycles]
  rfl

end Sys2Proof.Machine
end

