-- ==== Sys2Proof/Laws/Devices.lean ====
section
/-!
SUPPORT. What a bus cycle does to each device: the TIA, the RIOT, the RAM, the mapper; and what the clock of the TIA
does to each of its fields.
-/

namespace Sys2Proof.Machine

/-! ### The clock of the TIA -/

theorem runTia_succ (par : Params) (inp : Inputs) (n : Nat) (t : Tia) :
    runTia par inp (n + 1) t = (tiaClock par inp (runTia par inp n t)).1 := by
  induction n generalizing t with
  | zero => rfl
  | succ n ih => rw [runTia, ih]; rfl

theorem runTia_add (par : Params) (inp : Inputs) (m n : Nat) (t : Tia) :
    runTia par inp (m + n) t = runTia par inp n (runTia par inp m t) := by
  induction m generalizing t with
  | zero => simp [runTia]
  | succ m ih => rw [Nat.succ_add, runTia, ih, runTia]

/-- One CPU cycle is three chip-cycles (rule R62). -/
theorem advanceChips_runTia (s : State) : (advanceChips s).tia = runTia s.par s.inp 3 s.tia := by
  rw [advanceChips_tia]; rfl

variable (par : Params) (inp : Inputs) (t : Tia)

theorem tiaClock_hcount :
    (tiaClock par inp t).1.beam.hcount = if t.beam.hcount = 227 then 0 else t.beam.hcount + 1 := by
  simp only [tiaClock, advanceBeam, clockAudio, drawPixel, latchInputs, audioClock]
  repeat' split
  all_goals rfl

theorem tiaClock_line :
    (tiaClock par inp t).1.beam.line = if t.beam.hcount = 227 then t.beam.line + 1 else t.beam.line := by
  simp only [tiaClock, advanceBeam, clockAudio, drawPixel, latchInputs, audioClock]
  repeat' split
  all_goals rfl

theorem tiaClock_wsync :
    (tiaClock par inp t).1.beam.wsync = (t.beam.wsync && !decide (t.beam.hcount = 227)) := by
  simp only [tiaClock, advanceBeam, clockAudio, drawPixel, latchInputs, audioClock]
  repeat' split
  all_goals first | rfl | simp_all

theorem tiaClock_latch : (tiaClock par inp t).1.latch = (latchInputs inp t).latch := by
  simp only [tiaClock, advanceBeam, clockAudio, drawPixel, latchInputs, audioClock]
  repeat' split
  all_goals rfl

theorem tiaClock_sync : (tiaClock par inp t).1.sync = t.sync := by
  simp only [tiaClock, advanceBeam, clockAudio, drawPixel, latchInputs, audioClock]
  repeat' split
  all_goals rfl

theorem tiaClock_cx : (tiaClock par inp t).1.cx = (drawPixel par (latchInputs inp t)).1.cx := by
  simp only [tiaClock, advanceBeam, clockAudio, audioClock]
  repeat' split
  all_goals rfl

/-- The clock writes no register of the program. -/
theorem tiaClock_registers : (tiaClock par inp t).1.registers = t.registers := by
  simp only [tiaClock, advanceBeam, clockAudio, drawPixel, latchInputs, audioClock, channelClock]
  repeat' split
  all_goals rfl

/-! ### The tone generators -/

/-- A step keeps the generator it is a step of (rule R446). -/
@[simp] theorem waveStep_kind (audc : BitVec 4) (w : WaveState) : (waveStep audc w).kind = w.kind := by
  cases w <;> rfl

@[simp] theorem waveInit_kind (k : WaveKind) : (waveInit k).kind = k := by
  cases k <;> rfl

/-- After a step of a constant type the output is 1, whatever the generator (rule R446 (b)). -/
theorem waveOut_constantType {audc : BitVec 4} (h : constantType audc = true) (w : WaveState) :
    waveOut (waveStep audc w) = true := by
  cases w <;> simp [waveStep, waveOut, defaultWaveStep, h]

/-- What an audio clock does to a channel (rule R443). -/
theorem channelClock_eq (c : Channel) :
    channelClock c = { c with
      adiv := if c.adiv = c.audf then 0 else c.adiv + 1
      awave := if c.adiv = c.audf then waveStep c.audc c.awave else c.awave } := by
  unfold channelClock
  split <;> rfl

@[simp] theorem channelClock_kind (c : Channel) : (channelClock c).awave.kind = c.awave.kind := by
  rw [channelClock_eq]
  dsimp only
  split <;> simp

theorem tiaClock_kind :
    (tiaClock par inp t).1.ch0.awave.kind = t.ch0.awave.kind ∧
    (tiaClock par inp t).1.ch1.awave.kind = t.ch1.awave.kind := by
  simp only [tiaClock, advanceBeam, clockAudio, drawPixel, latchInputs, audioClock]
  repeat' split
  all_goals first | exact ⟨rfl, rfl⟩ | exact ⟨channelClock_kind _, channelClock_kind _⟩

/-- No TIA write touches a generator (rule R362 table V-1). -/
theorem tiaStore_awave (m : Nat) (reg : BitVec 6) (v : Byte) :
    (tiaStore m reg v t).ch0.awave = t.ch0.awave ∧ (tiaStore m reg v t).ch1.awave = t.ch1.awave := by
  unfold tiaStore
  split <;> first | exact ⟨rfl, rfl⟩ | (simp only [strobeWsync]; split <;> exact ⟨rfl, rfl⟩)

variable (a : Word) (v : Byte) (s : State)

/-! ### The TIA -/

/-- A write to the TIA, after the three chip-cycles of its cycle (rules R62, R67). -/
theorem wr_tia {a : Word} {reg : BitVec 6} (h : decodeBus (busAddr a) = .tia reg) :
    (wr a v s).tia = tiaStore s.par.hmoveBlankMax reg v (runTia s.par s.inp 3 s.tia) := by
  simp only [wr, routeWrite, h, writeTia, advanceChips_runTia, advanceChips_par]

/-- A write elsewhere leaves the TIA to its clock. -/
theorem wr_tia_elsewhere {a : Word} (h : ∀ reg, decodeBus (busAddr a) ≠ .tia reg) :
    (wr a v s).tia = (advanceChips s).tia := by
  simp only [wr, routeWrite]
  generalize advanceChips s = x
  cases hd : decodeBus (busAddr a) <;> first | rfl | exact absurd hd (h _)

/-! ### The RIOT -/

theorem rd_riot :
    (rd a s).2.riot = match decodeBus (busAddr a) with
      | .riot sel => (riotRead sel s.inp (advanceChips (hold s)).riot).2
      | _ => (advanceChips (hold s)).riot := by
  simp only [rd, readNoCycle, routeRead, snoop_read]
  cases decodeBus (busAddr a) <;> simp

theorem wr_riot :
    (wr a v s).riot = match decodeBus (busAddr a) with
      | .riot sel => riotWrite sel v (riotTick s.riot)
      | _ => riotTick s.riot := by
  simp only [wr, routeWrite]
  cases decodeBus (busAddr a) <;> simp [writeTia]

/-! ### RAM -/

/-- The byte a read of RAM returns: no device and no time changes it (rule R66). -/
theorem rd_ram_value {a : Word} {k : BitVec 7} (h : decodeBus (busAddr a) = .ram k) :
    (rd a s).1 = readCell s.ram k.toNat := by
  have e : (rd a s).1 = (routeRead (busAddr a) (advanceChips (hold s))).1 := rfl
  rw [e]
  simp only [routeRead, snoop_read, h]
  simp

/-! ### The mapper -/

theorem mapRead_bank (off : BitVec 12) (d : Byte) (m : Mapper) :
    (mapRead off d m).2.bank = hotSpot m.scheme off m.bank := by
  simp only [mapRead, triggered]
  by_cases h : hasCartRam m.scheme = true <;> by_cases h2 : off.toNat < 0x80 <;> by_cases h3 : off.toNat < 0x100 <;>
    simp [h, h2, h3]

theorem mapWrite_bank (off : BitVec 12) (d : Byte) (m : Mapper) :
    (mapWrite off d m).bank = hotSpot m.scheme off m.bank := by
  simp only [mapWrite, triggered]
  by_cases h : hasCartRam m.scheme = true <;> by_cases h2 : off.toNat < 0x80 <;> simp [h, h2]

/-- The cartridge RAM after an access: the byte at the write port of a scheme that has one (rule R112). -/
theorem mapRead_ram (off : BitVec 12) (d : Byte) (m : Mapper) :
    (mapRead off d m).2.ram =
      if hasCartRam m.scheme = true ∧ off.toNat < 0x80 then writeCell m.ram off.toNat d else m.ram := by
  simp only [mapRead, triggered]
  by_cases h : hasCartRam m.scheme = true <;> by_cases h2 : off.toNat < 0x80 <;> by_cases h3 : off.toNat < 0x100 <;>
    simp [h, h2, h3]

theorem mapWrite_ram (off : BitVec 12) (d : Byte) (m : Mapper) :
    (mapWrite off d m).ram =
      if hasCartRam m.scheme = true ∧ off.toNat < 0x80 then writeCell m.ram off.toNat d else m.ram := by
  simp only [mapWrite, triggered]
  by_cases h : hasCartRam m.scheme = true <;> by_cases h2 : off.toNat < 0x80 <;> simp [h, h2]

/-- The mapper after a read: only an access to the window reaches it. -/
theorem rd_map :
    (rd a s).2.map = match decodeBus (busAddr a) with
      | .cartridge off => (mapRead off s.dbus s.map).2
      | _ => s.map := by
  simp only [rd, readNoCycle, routeRead, snoop_read]
  cases hd : decodeBus (busAddr a) <;> simp

/-- The mapper after a write: its snoop, and the window. -/
theorem wr_map :
    (wr a v s).map = match decodeBus (busAddr a) with
      | .cartridge off => mapWrite off v (snoop .write (busAddr a) v s.map)
      | _ => snoop .write (busAddr a) v s.map := by
  simp only [wr, routeWrite]
  cases hd : decodeBus (busAddr a) <;> simp [writeTia]

/-! ### The stores keep their form -/

/-- A bus cycle keeps the canonical form of RAM and of the cartridge RAM; it leaves the image alone. -/
theorem wr_ram_wf (h : Memory.wf s.ram = true) : Memory.wf (wr a v s).ram = true := by
  rw [wr_ram]
  split
  · exact Memory.wf_writeCell _ _ _ h
  · exact h

theorem rd_cartRam_wf (h : Memory.wf s.map.ram = true) : Memory.wf (rd a s).2.map.ram = true := by
  rw [rd_map]
  split
  · rw [mapRead_ram]
    split
    · exact Memory.wf_writeCell _ _ _ h
    · exact h
  · exact h

theorem wr_cartRam_wf (h : Memory.wf s.map.ram = true) : Memory.wf (wr a v s).map.ram = true := by
  rw [wr_map]
  split
  · rw [mapWrite_ram, snoop_ram]
    split
    · exact Memory.wf_writeCell _ _ _ h
    · exact h
  · rw [snoop_ram]
    exact h

/-- A loaded image is in canonical form. -/
theorem storeBytes_wf (i : Nat) (l : List Byte) : wfFrom i (storeBytes i l) = true := by
  induction l generalizing i with
  | nil => rfl
  | cons v rest ih => exact wfFrom_consCell v _ (Nat.le_refl i) (ih (i + 1))

/-- Placing a byte keeps the form of RAM and of the image. -/
theorem placeByte_wf (h : Memory.wf s.ram = true) (g : Memory.wf s.map.rom = true) :
    Memory.wf (placeByte a v s).ram = true ∧ Memory.wf (placeByte a v s).map.rom = true := by
  unfold placeByte
  split
  · exact ⟨h, Memory.wf_writeCell _ _ _ g⟩
  · exact ⟨Memory.wf_writeCell _ _ _ h, g⟩
  · exact ⟨h, g⟩
  · exact ⟨h, g⟩

theorem reset_ram_wf : Memory.wf State.reset.ram = true := by decide

theorem reset_image_wf : Memory.wf State.reset.map.rom = true := by decide

theorem reset_cartRam_wf : Memory.wf State.reset.map.ram = true := by decide

end Sys2Proof.Machine
end

