-- ==== Sys2Proof/Laws/PerInstr.lean ====
section
/-!
SUPPORT. One lemma for each instruction about its encoding: its bytes are those of its row of the opcode table, the
opcode map has that row at its opcode, and the decoder builds the instruction from them.
-/

namespace Sys2Proof.Laws.Encoding

open Sys2Proof

/-- The encoder, the opcode table and the opcode map agree on an instruction (rules R140, R141, R143, R281). -/
def Statement (i : Instr) : Prop :=
  i.wellFormed = true →
    encode i = i.form.bytes ∧ (opcodeCell i.form.op).mode = i.form.mode ∧
    instrOf i.form.op i.form.b1 i.form.b2 = i

theorem brk : Statement .brk := fun _ => ⟨rfl, rfl, rfl⟩

theorem oraIzX (b1 : Byte) : Statement (.oraIzX b1) := fun _ => ⟨rfl, rfl, rfl⟩

theorem jam (op : Byte) : Statement (.jam op) := by
  intro h
  simp only [Instr.wellFormed, jamOpcodes, List.contains_iff_mem, List.mem_cons, List.not_mem_nil, or_false] at h
  rcases h with rfl | rfl | rfl | rfl | rfl | rfl | rfl | rfl | rfl | rfl | rfl | rfl <;> exact ⟨rfl, rfl, rfl⟩

theorem sloIzX (b1 : Byte) : Statement (.sloIzX b1) := fun _ => ⟨rfl, rfl, rfl⟩

theorem nopZp (op b1 : Byte) : Statement (.nopZp op b1) := by
  intro h
  simp only [Instr.wellFormed, nopZpOpcodes, List.contains_iff_mem, List.mem_cons, List.not_mem_nil, or_false] at h
  rcases h with rfl | rfl | rfl <;> exact ⟨rfl, rfl, rfl⟩

theorem oraZp (b1 : Byte) : Statement (.oraZp b1) := fun _ => ⟨rfl, rfl, rfl⟩

theorem aslZp (b1 : Byte) : Statement (.aslZp b1) := fun _ => ⟨rfl, rfl, rfl⟩

theorem sloZp (b1 : Byte) : Statement (.sloZp b1) := fun _ => ⟨rfl, rfl, rfl⟩

theorem php : Statement .php := fun _ => ⟨rfl, rfl, rfl⟩

theorem oraImm (b1 : Byte) : Statement (.oraImm b1) := fun _ => ⟨rfl, rfl, rfl⟩

theorem aslAcc : Statement .aslAcc := fun _ => ⟨rfl, rfl, rfl⟩

theorem ancImm (op b1 : Byte) : Statement (.ancImm op b1) := by
  intro h
  simp only [Instr.wellFormed, ancOpcodes, List.contains_iff_mem, List.mem_cons, List.not_mem_nil, or_false] at h
  rcases h with rfl | rfl <;> exact ⟨rfl, rfl, rfl⟩

theorem nopAbs (lo hi : Byte) : Statement (.nopAbs lo hi) := fun _ => ⟨rfl, rfl, rfl⟩

theorem oraAbs (lo hi : Byte) : Statement (.oraAbs lo hi) := fun _ => ⟨rfl, rfl, rfl⟩

theorem aslAbs (lo hi : Byte) : Statement (.aslAbs lo hi) := fun _ => ⟨rfl, rfl, rfl⟩

theorem sloAbs (lo hi : Byte) : Statement (.sloAbs lo hi) := fun _ => ⟨rfl, rfl, rfl⟩

theorem bpl (d : Byte) : Statement (.bpl d) := fun _ => ⟨rfl, rfl, rfl⟩

theorem oraIzY (b1 : Byte) : Statement (.oraIzY b1) := fun _ => ⟨rfl, rfl, rfl⟩

theorem sloIzY (b1 : Byte) : Statement (.sloIzY b1) := fun _ => ⟨rfl, rfl, rfl⟩

theorem nopZpX (op b1 : Byte) : Statement (.nopZpX op b1) := by
  intro h
  simp only [Instr.wellFormed, nopZpXOpcodes, List.contains_iff_mem, List.mem_cons, List.not_mem_nil, or_false] at h
  rcases h with rfl | rfl | rfl | rfl | rfl | rfl <;> exact ⟨rfl, rfl, rfl⟩

theorem oraZpX (b1 : Byte) : Statement (.oraZpX b1) := fun _ => ⟨rfl, rfl, rfl⟩

theorem aslZpX (b1 : Byte) : Statement (.aslZpX b1) := fun _ => ⟨rfl, rfl, rfl⟩

theorem sloZpX (b1 : Byte) : Statement (.sloZpX b1) := fun _ => ⟨rfl, rfl, rfl⟩

theorem clc : Statement .clc := fun _ => ⟨rfl, rfl, rfl⟩

theorem oraAbsY (lo hi : Byte) : Statement (.oraAbsY lo hi) := fun _ => ⟨rfl, rfl, rfl⟩

theorem nopImp (op : Byte) : Statement (.nopImp op) := by
  intro h
  simp only [Instr.wellFormed, nopImpOpcodes, List.contains_iff_mem, List.mem_cons, List.not_mem_nil, or_false] at h
  rcases h with rfl | rfl | rfl | rfl | rfl | rfl <;> exact ⟨rfl, rfl, rfl⟩

theorem sloAbsY (lo hi : Byte) : Statement (.sloAbsY lo hi) := fun _ => ⟨rfl, rfl, rfl⟩

theorem nopAbsX (op lo hi : Byte) : Statement (.nopAbsX op lo hi) := by
  intro h
  simp only [Instr.wellFormed, nopAbsXOpcodes, List.contains_iff_mem, List.mem_cons, List.not_mem_nil, or_false] at h
  rcases h with rfl | rfl | rfl | rfl | rfl | rfl <;> exact ⟨rfl, rfl, rfl⟩

theorem oraAbsX (lo hi : Byte) : Statement (.oraAbsX lo hi) := fun _ => ⟨rfl, rfl, rfl⟩

theorem aslAbsX (lo hi : Byte) : Statement (.aslAbsX lo hi) := fun _ => ⟨rfl, rfl, rfl⟩

theorem sloAbsX (lo hi : Byte) : Statement (.sloAbsX lo hi) := fun _ => ⟨rfl, rfl, rfl⟩

theorem jsr (lo hi : Byte) : Statement (.jsr lo hi) := fun _ => ⟨rfl, rfl, rfl⟩

theorem andIzX (b1 : Byte) : Statement (.andIzX b1) := fun _ => ⟨rfl, rfl, rfl⟩

theorem rlaIzX (b1 : Byte) : Statement (.rlaIzX b1) := fun _ => ⟨rfl, rfl, rfl⟩

theorem bitZp (b1 : Byte) : Statement (.bitZp b1) := fun _ => ⟨rfl, rfl, rfl⟩

theorem andZp (b1 : Byte) : Statement (.andZp b1) := fun _ => ⟨rfl, rfl, rfl⟩

theorem rolZp (b1 : Byte) : Statement (.rolZp b1) := fun _ => ⟨rfl, rfl, rfl⟩

theorem rlaZp (b1 : Byte) : Statement (.rlaZp b1) := fun _ => ⟨rfl, rfl, rfl⟩

theorem plp : Statement .plp := fun _ => ⟨rfl, rfl, rfl⟩

theorem andImm (b1 : Byte) : Statement (.andImm b1) := fun _ => ⟨rfl, rfl, rfl⟩

theorem rolAcc : Statement .rolAcc := fun _ => ⟨rfl, rfl, rfl⟩

theorem bitAbs (lo hi : Byte) : Statement (.bitAbs lo hi) := fun _ => ⟨rfl, rfl, rfl⟩

theorem andAbs (lo hi : Byte) : Statement (.andAbs lo hi) := fun _ => ⟨rfl, rfl, rfl⟩

theorem rolAbs (lo hi : Byte) : Statement (.rolAbs lo hi) := fun _ => ⟨rfl, rfl, rfl⟩

theorem rlaAbs (lo hi : Byte) : Statement (.rlaAbs lo hi) := fun _ => ⟨rfl, rfl, rfl⟩

theorem bmi (d : Byte) : Statement (.bmi d) := fun _ => ⟨rfl, rfl, rfl⟩

theorem andIzY (b1 : Byte) : Statement (.andIzY b1) := fun _ => ⟨rfl, rfl, rfl⟩

theorem rlaIzY (b1 : Byte) : Statement (.rlaIzY b1) := fun _ => ⟨rfl, rfl, rfl⟩

theorem andZpX (b1 : Byte) : Statement (.andZpX b1) := fun _ => ⟨rfl, rfl, rfl⟩

theorem rolZpX (b1 : Byte) : Statement (.rolZpX b1) := fun _ => ⟨rfl, rfl, rfl⟩

theorem rlaZpX (b1 : Byte) : Statement (.rlaZpX b1) := fun _ => ⟨rfl, rfl, rfl⟩

theorem sec : Statement .sec := fun _ => ⟨rfl, rfl, rfl⟩

theorem andAbsY (lo hi : Byte) : Statement (.andAbsY lo hi) := fun _ => ⟨rfl, rfl, rfl⟩

theorem rlaAbsY (lo hi : Byte) : Statement (.rlaAbsY lo hi) := fun _ => ⟨rfl, rfl, rfl⟩

theorem andAbsX (lo hi : Byte) : Statement (.andAbsX lo hi) := fun _ => ⟨rfl, rfl, rfl⟩

theorem rolAbsX (lo hi : Byte) : Statement (.rolAbsX lo hi) := fun _ => ⟨rfl, rfl, rfl⟩

theorem rlaAbsX (lo hi : Byte) : Statement (.rlaAbsX lo hi) := fun _ => ⟨rfl, rfl, rfl⟩

theorem rti : Statement .rti := fun _ => ⟨rfl, rfl, rfl⟩

theorem eorIzX (b1 : Byte) : Statement (.eorIzX b1) := fun _ => ⟨rfl, rfl, rfl⟩

theorem sreIzX (b1 : Byte) : Statement (.sreIzX b1) := fun _ => ⟨rfl, rfl, rfl⟩

theorem eorZp (b1 : Byte) : Statement (.eorZp b1) := fun _ => ⟨rfl, rfl, rfl⟩

theorem lsrZp (b1 : Byte) : Statement (.lsrZp b1) := fun _ => ⟨rfl, rfl, rfl⟩

theorem sreZp (b1 : Byte) : Statement (.sreZp b1) := fun _ => ⟨rfl, rfl, rfl⟩

theorem pha : Statement .pha := fun _ => ⟨rfl, rfl, rfl⟩

theorem eorImm (b1 : Byte) : Statement (.eorImm b1) := fun _ => ⟨rfl, rfl, rfl⟩

theorem lsrAcc : Statement .lsrAcc := fun _ => ⟨rfl, rfl, rfl⟩

theorem alr (b1 : Byte) : Statement (.alr b1) := fun _ => ⟨rfl, rfl, rfl⟩

theorem jmpAbs (lo hi : Byte) : Statement (.jmpAbs lo hi) := fun _ => ⟨rfl, rfl, rfl⟩

theorem eorAbs (lo hi : Byte) : Statement (.eorAbs lo hi) := fun _ => ⟨rfl, rfl, rfl⟩

theorem lsrAbs (lo hi : Byte) : Statement (.lsrAbs lo hi) := fun _ => ⟨rfl, rfl, rfl⟩

theorem sreAbs (lo hi : Byte) : Statement (.sreAbs lo hi) := fun _ => ⟨rfl, rfl, rfl⟩

theorem bvc (d : Byte) : Statement (.bvc d) := fun _ => ⟨rfl, rfl, rfl⟩

theorem eorIzY (b1 : Byte) : Statement (.eorIzY b1) := fun _ => ⟨rfl, rfl, rfl⟩

theorem sreIzY (b1 : Byte) : Statement (.sreIzY b1) := fun _ => ⟨rfl, rfl, rfl⟩

theorem eorZpX (b1 : Byte) : Statement (.eorZpX b1) := fun _ => ⟨rfl, rfl, rfl⟩

theorem lsrZpX (b1 : Byte) : Statement (.lsrZpX b1) := fun _ => ⟨rfl, rfl, rfl⟩

theorem sreZpX (b1 : Byte) : Statement (.sreZpX b1) := fun _ => ⟨rfl, rfl, rfl⟩

theorem cli : Statement .cli := fun _ => ⟨rfl, rfl, rfl⟩

theorem eorAbsY (lo hi : Byte) : Statement (.eorAbsY lo hi) := fun _ => ⟨rfl, rfl, rfl⟩

theorem sreAbsY (lo hi : Byte) : Statement (.sreAbsY lo hi) := fun _ => ⟨rfl, rfl, rfl⟩

theorem eorAbsX (lo hi : Byte) : Statement (.eorAbsX lo hi) := fun _ => ⟨rfl, rfl, rfl⟩

theorem lsrAbsX (lo hi : Byte) : Statement (.lsrAbsX lo hi) := fun _ => ⟨rfl, rfl, rfl⟩

theorem sreAbsX (lo hi : Byte) : Statement (.sreAbsX lo hi) := fun _ => ⟨rfl, rfl, rfl⟩

theorem rts : Statement .rts := fun _ => ⟨rfl, rfl, rfl⟩

theorem adcIzX (b1 : Byte) : Statement (.adcIzX b1) := fun _ => ⟨rfl, rfl, rfl⟩

theorem rraIzX (b1 : Byte) : Statement (.rraIzX b1) := fun _ => ⟨rfl, rfl, rfl⟩

theorem adcZp (b1 : Byte) : Statement (.adcZp b1) := fun _ => ⟨rfl, rfl, rfl⟩

theorem rorZp (b1 : Byte) : Statement (.rorZp b1) := fun _ => ⟨rfl, rfl, rfl⟩

theorem rraZp (b1 : Byte) : Statement (.rraZp b1) := fun _ => ⟨rfl, rfl, rfl⟩

theorem pla : Statement .pla := fun _ => ⟨rfl, rfl, rfl⟩

theorem adcImm (b1 : Byte) : Statement (.adcImm b1) := fun _ => ⟨rfl, rfl, rfl⟩

theorem rorAcc : Statement .rorAcc := fun _ => ⟨rfl, rfl, rfl⟩

theorem arr (b1 : Byte) : Statement (.arr b1) := fun _ => ⟨rfl, rfl, rfl⟩

theorem jmpInd (lo hi : Byte) : Statement (.jmpInd lo hi) := fun _ => ⟨rfl, rfl, rfl⟩

theorem adcAbs (lo hi : Byte) : Statement (.adcAbs lo hi) := fun _ => ⟨rfl, rfl, rfl⟩

theorem rorAbs (lo hi : Byte) : Statement (.rorAbs lo hi) := fun _ => ⟨rfl, rfl, rfl⟩

theorem rraAbs (lo hi : Byte) : Statement (.rraAbs lo hi) := fun _ => ⟨rfl, rfl, rfl⟩

theorem bvs (d : Byte) : Statement (.bvs d) := fun _ => ⟨rfl, rfl, rfl⟩

theorem adcIzY (b1 : Byte) : Statement (.adcIzY b1) := fun _ => ⟨rfl, rfl, rfl⟩

theorem rraIzY (b1 : Byte) : Statement (.rraIzY b1) := fun _ => ⟨rfl, rfl, rfl⟩

theorem adcZpX (b1 : Byte) : Statement (.adcZpX b1) := fun _ => ⟨rfl, rfl, rfl⟩

theorem rorZpX (b1 : Byte) : Statement (.rorZpX b1) := fun _ => ⟨rfl, rfl, rfl⟩

theorem rraZpX (b1 : Byte) : Statement (.rraZpX b1) := fun _ => ⟨rfl, rfl, rfl⟩

theorem sei : Statement .sei := fun _ => ⟨rfl, rfl, rfl⟩

theorem adcAbsY (lo hi : Byte) : Statement (.adcAbsY lo hi) := fun _ => ⟨rfl, rfl, rfl⟩

theorem rraAbsY (lo hi : Byte) : Statement (.rraAbsY lo hi) := fun _ => ⟨rfl, rfl, rfl⟩

theorem adcAbsX (lo hi : Byte) : Statement (.adcAbsX lo hi) := fun _ => ⟨rfl, rfl, rfl⟩

theorem rorAbsX (lo hi : Byte) : Statement (.rorAbsX lo hi) := fun _ => ⟨rfl, rfl, rfl⟩

theorem rraAbsX (lo hi : Byte) : Statement (.rraAbsX lo hi) := fun _ => ⟨rfl, rfl, rfl⟩

theorem nopImm (op b1 : Byte) : Statement (.nopImm op b1) := by
  intro h
  simp only [Instr.wellFormed, nopImmOpcodes, List.contains_iff_mem, List.mem_cons, List.not_mem_nil, or_false] at h
  rcases h with rfl | rfl | rfl | rfl | rfl <;> exact ⟨rfl, rfl, rfl⟩

theorem staIzX (b1 : Byte) : Statement (.staIzX b1) := fun _ => ⟨rfl, rfl, rfl⟩

theorem saxIzX (b1 : Byte) : Statement (.saxIzX b1) := fun _ => ⟨rfl, rfl, rfl⟩

theorem styZp (b1 : Byte) : Statement (.styZp b1) := fun _ => ⟨rfl, rfl, rfl⟩

theorem staZp (b1 : Byte) : Statement (.staZp b1) := fun _ => ⟨rfl, rfl, rfl⟩

theorem stxZp (b1 : Byte) : Statement (.stxZp b1) := fun _ => ⟨rfl, rfl, rfl⟩

theorem saxZp (b1 : Byte) : Statement (.saxZp b1) := fun _ => ⟨rfl, rfl, rfl⟩

theorem dey : Statement .dey := fun _ => ⟨rfl, rfl, rfl⟩

theorem txa : Statement .txa := fun _ => ⟨rfl, rfl, rfl⟩

theorem ane (b1 : Byte) : Statement (.ane b1) := fun _ => ⟨rfl, rfl, rfl⟩

theorem styAbs (lo hi : Byte) : Statement (.styAbs lo hi) := fun _ => ⟨rfl, rfl, rfl⟩

theorem staAbs (lo hi : Byte) : Statement (.staAbs lo hi) := fun _ => ⟨rfl, rfl, rfl⟩

theorem stxAbs (lo hi : Byte) : Statement (.stxAbs lo hi) := fun _ => ⟨rfl, rfl, rfl⟩

theorem saxAbs (lo hi : Byte) : Statement (.saxAbs lo hi) := fun _ => ⟨rfl, rfl, rfl⟩

theorem bcc (d : Byte) : Statement (.bcc d) := fun _ => ⟨rfl, rfl, rfl⟩

theorem staIzY (b1 : Byte) : Statement (.staIzY b1) := fun _ => ⟨rfl, rfl, rfl⟩

theorem shaIzY (b1 : Byte) : Statement (.shaIzY b1) := fun _ => ⟨rfl, rfl, rfl⟩

theorem styZpX (b1 : Byte) : Statement (.styZpX b1) := fun _ => ⟨rfl, rfl, rfl⟩

theorem staZpX (b1 : Byte) : Statement (.staZpX b1) := fun _ => ⟨rfl, rfl, rfl⟩

theorem stxZpY (b1 : Byte) : Statement (.stxZpY b1) := fun _ => ⟨rfl, rfl, rfl⟩

theorem saxZpY (b1 : Byte) : Statement (.saxZpY b1) := fun _ => ⟨rfl, rfl, rfl⟩

theorem tya : Statement .tya := fun _ => ⟨rfl, rfl, rfl⟩

theorem staAbsY (lo hi : Byte) : Statement (.staAbsY lo hi) := fun _ => ⟨rfl, rfl, rfl⟩

theorem txs : Statement .txs := fun _ => ⟨rfl, rfl, rfl⟩

theorem tas (lo hi : Byte) : Statement (.tas lo hi) := fun _ => ⟨rfl, rfl, rfl⟩

theorem shy (lo hi : Byte) : Statement (.shy lo hi) := fun _ => ⟨rfl, rfl, rfl⟩

theorem staAbsX (lo hi : Byte) : Statement (.staAbsX lo hi) := fun _ => ⟨rfl, rfl, rfl⟩

theorem shx (lo hi : Byte) : Statement (.shx lo hi) := fun _ => ⟨rfl, rfl, rfl⟩

theorem shaAbsY (lo hi : Byte) : Statement (.shaAbsY lo hi) := fun _ => ⟨rfl, rfl, rfl⟩

theorem ldyImm (b1 : Byte) : Statement (.ldyImm b1) := fun _ => ⟨rfl, rfl, rfl⟩

theorem ldaIzX (b1 : Byte) : Statement (.ldaIzX b1) := fun _ => ⟨rfl, rfl, rfl⟩

theorem ldxImm (b1 : Byte) : Statement (.ldxImm b1) := fun _ => ⟨rfl, rfl, rfl⟩

theorem laxIzX (b1 : Byte) : Statement (.laxIzX b1) := fun _ => ⟨rfl, rfl, rfl⟩

theorem ldyZp (b1 : Byte) : Statement (.ldyZp b1) := fun _ => ⟨rfl, rfl, rfl⟩

theorem ldaZp (b1 : Byte) : Statement (.ldaZp b1) := fun _ => ⟨rfl, rfl, rfl⟩

theorem ldxZp (b1 : Byte) : Statement (.ldxZp b1) := fun _ => ⟨rfl, rfl, rfl⟩

theorem laxZp (b1 : Byte) : Statement (.laxZp b1) := fun _ => ⟨rfl, rfl, rfl⟩

theorem tay : Statement .tay := fun _ => ⟨rfl, rfl, rfl⟩

theorem ldaImm (b1 : Byte) : Statement (.ldaImm b1) := fun _ => ⟨rfl, rfl, rfl⟩

theorem tax : Statement .tax := fun _ => ⟨rfl, rfl, rfl⟩

theorem lxa (b1 : Byte) : Statement (.lxa b1) := fun _ => ⟨rfl, rfl, rfl⟩

theorem ldyAbs (lo hi : Byte) : Statement (.ldyAbs lo hi) := fun _ => ⟨rfl, rfl, rfl⟩

theorem ldaAbs (lo hi : Byte) : Statement (.ldaAbs lo hi) := fun _ => ⟨rfl, rfl, rfl⟩

theorem ldxAbs (lo hi : Byte) : Statement (.ldxAbs lo hi) := fun _ => ⟨rfl, rfl, rfl⟩

theorem laxAbs (lo hi : Byte) : Statement (.laxAbs lo hi) := fun _ => ⟨rfl, rfl, rfl⟩

theorem bcs (d : Byte) : Statement (.bcs d) := fun _ => ⟨rfl, rfl, rfl⟩

theorem ldaIzY (b1 : Byte) : Statement (.ldaIzY b1) := fun _ => ⟨rfl, rfl, rfl⟩

theorem laxIzY (b1 : Byte) : Statement (.laxIzY b1) := fun _ => ⟨rfl, rfl, rfl⟩

theorem ldyZpX (b1 : Byte) : Statement (.ldyZpX b1) := fun _ => ⟨rfl, rfl, rfl⟩

theorem ldaZpX (b1 : Byte) : Statement (.ldaZpX b1) := fun _ => ⟨rfl, rfl, rfl⟩

theorem ldxZpY (b1 : Byte) : Statement (.ldxZpY b1) := fun _ => ⟨rfl, rfl, rfl⟩

theorem laxZpY (b1 : Byte) : Statement (.laxZpY b1) := fun _ => ⟨rfl, rfl, rfl⟩

theorem clv : Statement .clv := fun _ => ⟨rfl, rfl, rfl⟩

theorem ldaAbsY (lo hi : Byte) : Statement (.ldaAbsY lo hi) := fun _ => ⟨rfl, rfl, rfl⟩

theorem tsx : Statement .tsx := fun _ => ⟨rfl, rfl, rfl⟩

theorem las (lo hi : Byte) : Statement (.las lo hi) := fun _ => ⟨rfl, rfl, rfl⟩

theorem ldyAbsX (lo hi : Byte) : Statement (.ldyAbsX lo hi) := fun _ => ⟨rfl, rfl, rfl⟩

theorem ldaAbsX (lo hi : Byte) : Statement (.ldaAbsX lo hi) := fun _ => ⟨rfl, rfl, rfl⟩

theorem ldxAbsY (lo hi : Byte) : Statement (.ldxAbsY lo hi) := fun _ => ⟨rfl, rfl, rfl⟩

theorem laxAbsY (lo hi : Byte) : Statement (.laxAbsY lo hi) := fun _ => ⟨rfl, rfl, rfl⟩

theorem cpyImm (b1 : Byte) : Statement (.cpyImm b1) := fun _ => ⟨rfl, rfl, rfl⟩

theorem cmpIzX (b1 : Byte) : Statement (.cmpIzX b1) := fun _ => ⟨rfl, rfl, rfl⟩

theorem dcpIzX (b1 : Byte) : Statement (.dcpIzX b1) := fun _ => ⟨rfl, rfl, rfl⟩

theorem cpyZp (b1 : Byte) : Statement (.cpyZp b1) := fun _ => ⟨rfl, rfl, rfl⟩

theorem cmpZp (b1 : Byte) : Statement (.cmpZp b1) := fun _ => ⟨rfl, rfl, rfl⟩

theorem decZp (b1 : Byte) : Statement (.decZp b1) := fun _ => ⟨rfl, rfl, rfl⟩

theorem dcpZp (b1 : Byte) : Statement (.dcpZp b1) := fun _ => ⟨rfl, rfl, rfl⟩

theorem iny : Statement .iny := fun _ => ⟨rfl, rfl, rfl⟩

theorem cmpImm (b1 : Byte) : Statement (.cmpImm b1) := fun _ => ⟨rfl, rfl, rfl⟩

theorem dex : Statement .dex := fun _ => ⟨rfl, rfl, rfl⟩

theorem sbx (b1 : Byte) : Statement (.sbx b1) := fun _ => ⟨rfl, rfl, rfl⟩

theorem cpyAbs (lo hi : Byte) : Statement (.cpyAbs lo hi) := fun _ => ⟨rfl, rfl, rfl⟩

theorem cmpAbs (lo hi : Byte) : Statement (.cmpAbs lo hi) := fun _ => ⟨rfl, rfl, rfl⟩

theorem decAbs (lo hi : Byte) : Statement (.decAbs lo hi) := fun _ => ⟨rfl, rfl, rfl⟩

theorem dcpAbs (lo hi : Byte) : Statement (.dcpAbs lo hi) := fun _ => ⟨rfl, rfl, rfl⟩

theorem bne (d : Byte) : Statement (.bne d) := fun _ => ⟨rfl, rfl, rfl⟩

theorem cmpIzY (b1 : Byte) : Statement (.cmpIzY b1) := fun _ => ⟨rfl, rfl, rfl⟩

theorem dcpIzY (b1 : Byte) : Statement (.dcpIzY b1) := fun _ => ⟨rfl, rfl, rfl⟩

theorem cmpZpX (b1 : Byte) : Statement (.cmpZpX b1) := fun _ => ⟨rfl, rfl, rfl⟩

theorem decZpX (b1 : Byte) : Statement (.decZpX b1) := fun _ => ⟨rfl, rfl, rfl⟩

theorem dcpZpX (b1 : Byte) : Statement (.dcpZpX b1) := fun _ => ⟨rfl, rfl, rfl⟩

theorem cld : Statement .cld := fun _ => ⟨rfl, rfl, rfl⟩

theorem cmpAbsY (lo hi : Byte) : Statement (.cmpAbsY lo hi) := fun _ => ⟨rfl, rfl, rfl⟩

theorem dcpAbsY (lo hi : Byte) : Statement (.dcpAbsY lo hi) := fun _ => ⟨rfl, rfl, rfl⟩

theorem cmpAbsX (lo hi : Byte) : Statement (.cmpAbsX lo hi) := fun _ => ⟨rfl, rfl, rfl⟩

theorem decAbsX (lo hi : Byte) : Statement (.decAbsX lo hi) := fun _ => ⟨rfl, rfl, rfl⟩

theorem dcpAbsX (lo hi : Byte) : Statement (.dcpAbsX lo hi) := fun _ => ⟨rfl, rfl, rfl⟩

theorem cpxImm (b1 : Byte) : Statement (.cpxImm b1) := fun _ => ⟨rfl, rfl, rfl⟩

theorem sbcIzX (b1 : Byte) : Statement (.sbcIzX b1) := fun _ => ⟨rfl, rfl, rfl⟩

theorem iscIzX (b1 : Byte) : Statement (.iscIzX b1) := fun _ => ⟨rfl, rfl, rfl⟩

theorem cpxZp (b1 : Byte) : Statement (.cpxZp b1) := fun _ => ⟨rfl, rfl, rfl⟩

theorem sbcZp (b1 : Byte) : Statement (.sbcZp b1) := fun _ => ⟨rfl, rfl, rfl⟩

theorem incZp (b1 : Byte) : Statement (.incZp b1) := fun _ => ⟨rfl, rfl, rfl⟩

theorem iscZp (b1 : Byte) : Statement (.iscZp b1) := fun _ => ⟨rfl, rfl, rfl⟩

theorem inx : Statement .inx := fun _ => ⟨rfl, rfl, rfl⟩

theorem sbcImm (b1 : Byte) : Statement (.sbcImm b1) := fun _ => ⟨rfl, rfl, rfl⟩

theorem nop : Statement .nop := fun _ => ⟨rfl, rfl, rfl⟩

theorem usbc (b1 : Byte) : Statement (.usbc b1) := fun _ => ⟨rfl, rfl, rfl⟩

theorem cpxAbs (lo hi : Byte) : Statement (.cpxAbs lo hi) := fun _ => ⟨rfl, rfl, rfl⟩

theorem sbcAbs (lo hi : Byte) : Statement (.sbcAbs lo hi) := fun _ => ⟨rfl, rfl, rfl⟩

theorem incAbs (lo hi : Byte) : Statement (.incAbs lo hi) := fun _ => ⟨rfl, rfl, rfl⟩

theorem iscAbs (lo hi : Byte) : Statement (.iscAbs lo hi) := fun _ => ⟨rfl, rfl, rfl⟩

theorem beq (d : Byte) : Statement (.beq d) := fun _ => ⟨rfl, rfl, rfl⟩

theorem sbcIzY (b1 : Byte) : Statement (.sbcIzY b1) := fun _ => ⟨rfl, rfl, rfl⟩

theorem iscIzY (b1 : Byte) : Statement (.iscIzY b1) := fun _ => ⟨rfl, rfl, rfl⟩

theorem sbcZpX (b1 : Byte) : Statement (.sbcZpX b1) := fun _ => ⟨rfl, rfl, rfl⟩

theorem incZpX (b1 : Byte) : Statement (.incZpX b1) := fun _ => ⟨rfl, rfl, rfl⟩

theorem iscZpX (b1 : Byte) : Statement (.iscZpX b1) := fun _ => ⟨rfl, rfl, rfl⟩

theorem sed : Statement .sed := fun _ => ⟨rfl, rfl, rfl⟩

theorem sbcAbsY (lo hi : Byte) : Statement (.sbcAbsY lo hi) := fun _ => ⟨rfl, rfl, rfl⟩

theorem iscAbsY (lo hi : Byte) : Statement (.iscAbsY lo hi) := fun _ => ⟨rfl, rfl, rfl⟩

theorem sbcAbsX (lo hi : Byte) : Statement (.sbcAbsX lo hi) := fun _ => ⟨rfl, rfl, rfl⟩

theorem incAbsX (lo hi : Byte) : Statement (.incAbsX lo hi) := fun _ => ⟨rfl, rfl, rfl⟩

theorem iscAbsX (lo hi : Byte) : Statement (.iscAbsX lo hi) := fun _ => ⟨rfl, rfl, rfl⟩

end Sys2Proof.Laws.Encoding
end

