-- ==== Sys2Proof/Laws/Reset.lean ====
section
/-!
SUPPORT. `Reset()` and loading: what they leave, and that their banks and stores are in range (rules R101 to R104,
R121, R460, R462).
-/

namespace Sys2Proof.Machine

/-- The default start banks are banks of every image their scheme fits (rule R104). -/
theorem defaultBanks_valid {k : Scheme} {z : ImageSize} (h : k.fits z = true) :
    (defaultBanks k).valid k z = true := by
  revert h
  cases k <;> cases z <;> decide

/-- The start banks of admissible parameters are banks of the image (rules R104, R122). -/
theorem startBanks_valid {par : Params} {k : Scheme} {z : ImageSize} (hf : k.fits z = true)
    (hp : par.wellFormed k z = true) : (startBanks par k).valid k z = true := by
  simp only [Params.wellFormed, Bool.and_eq_true] at hp
  have hb := hp.1.1.1.1.2
  unfold startBanks
  cases h : par.startBank with
  | none => exact defaultBanks_valid hf
  | some b =>
    rw [h] at hb
    exact hb

theorem startBanks_some {par : Params} {b : Banks} (h : par.startBank = some b) (k : Scheme) :
    startBanks par k = b := by
  rw [startBanks, h]
  rfl

theorem startBanks_none {par : Params} (h : par.startBank = none) (k : Scheme) :
    startBanks par k = defaultBanks k := by
  rw [startBanks, h]
  rfl

/-- The bytes of a loaded image lie below its size. -/
theorem storeBytes_below (i : Nat) (l : List Byte) : belowBound (i + l.length) (storeBytes i l) = true := by
  induction l generalizing i with
  | nil => rfl
  | cons v rest ih =>
    have e : i + (v :: rest).length = (i + 1) + rest.length := by
      simp only [List.length_cons]
      omega
    rw [e]
    exact belowBound_consCell v _ (by omega) (ih (i + 1))

/-- An image size is the number of bytes it was read from (rule R101). -/
theorem sizeOfBytes_bytes {n : Nat} {z : ImageSize} (h : sizeOfBytes n = some z) : z.bytes = n := by
  unfold sizeOfBytes at h
  split at h <;> first | (cases h; rfl) | cases h

end Sys2Proof.Machine
end

