-- ==== Sys2Proof/Tests/Slice0.lean ====
section
/-!
SUPPORT. The tests: the ill-formed terms the checks refuse, the decoding of a word of every row of the opcode table,
single steps with the results of the spec's test vectors (spec/95_test_vectors.md), and for every statement with
hypotheses a state and operands that meet them.
-/

set_option Elab.async false

namespace Sys2Proof.Tests

open Sys2Proof Sys2Proof.Machine

/-! ### Ill-formed terms -/

theorem test_illformed_jam : (Instr.jam 0x82).wellFormed = false := by decide

theorem test_illformed_nopImp : (Instr.nopImp 0xEA).wellFormed = false := by decide

theorem test_illformed_nopImm : (Instr.nopImm 0xA2 0x00).wellFormed = false := by decide

theorem test_illformed_nopZp : (Instr.nopZp 0x24 0x80).wellFormed = false := by decide

theorem test_illformed_nopZpX : (Instr.nopZpX 0x94 0x80).wellFormed = false := by decide

theorem test_illformed_nopAbsX : (Instr.nopAbsX 0xBC 0x00 0xF0).wellFormed = false := by decide

theorem test_illformed_anc : (Instr.ancImm 0x4B 0x00).wellFormed = false := by decide

theorem test_scheme_does_not_fit :
    Scheme.fits .plain2k .k4 = false ∧ Scheme.fits .plain4k .k2 = false ∧ Scheme.fits .f8 .k16 = false ∧
    Scheme.fits .f8sc .k4 = false ∧ Scheme.fits .e0 .k16 = false ∧ Scheme.fits .f6 .k8 = false ∧
    Scheme.fits .f6sc .k32 = false ∧ Scheme.fits .f4 .k16 = false ∧ Scheme.fits .f4sc .k64 = false ∧
    Scheme.fits .ef .k32 = false ∧ Scheme.fits .s3f .k4 = false := by decide

theorem test_bank_out_of_image :
    Banks.valid ⟨2, 0, 0⟩ .f8 .k8 = false ∧ Banks.valid ⟨0, 8, 0⟩ .e0 .k8 = false ∧
    Banks.valid ⟨0, 0, 8⟩ .e0 .k8 = false ∧ Banks.valid ⟨16, 0, 0⟩ .ef .k64 = false ∧
    Banks.valid ⟨4, 0, 0⟩ .s3f .k8 = false := by decide

theorem test_illformed_parameters :
    Params.wellFormed { Params.default with audioPhaseB := Params.default.audioPhaseA } .plain4k .k4 = false ∧
    Params.wellFormed { Params.default with startBank := some ⟨1, 0, 0⟩ } .plain4k .k4 = false ∧
    Params.wellFormed { Params.default with resetRam := [(1, 0x05), (0, 0x05)] } .plain4k .k4 = false ∧
    Params.wellFormed { Params.default with resetRam := [(128, 0x05)] } .plain4k .k4 = false ∧
    Params.wellFormed { Params.default with resetScram := [(0, 0x00)] } .plain4k .k4 = false ∧
    Params.wellFormed { Params.default with resetScram := [(128, 0x05)] } .plain4k .k4 = false ∧
    Params.wellFormed Params.default .plain4k .k4 = true := by decide

theorem test_load_rejects :
    load Params.default none (List.replicate 3000 0xEA) Inputs.released = .error .size ∧
    load Params.default (some .f8) (List.replicate 4096 0xEA) Inputs.released = .error .scheme := by decide +kernel

/-- The banks after a load: rule R104's defaults, or the host's. -/
theorem test_load_start_banks :
    let banks (par : Params) (k : Scheme) (n : Nat) : Option Banks :=
      match load par (some k) (List.replicate n 0xEA) Inputs.released with
      | .ok s => some s.map.bank
      | .error _ => none
    banks Params.default .e0 8192 = some ⟨4, 5, 6⟩ ∧ banks Params.default .f8 8192 = some ⟨0, 0, 0⟩ ∧
    banks { Params.default with startBank := some ⟨1, 0, 0⟩ } .f8 8192 = some ⟨1, 0, 0⟩ := by decide +kernel

/-! ### Decoding: a word of every row of the opcode table -/

/-- Whether the decoder reads exactly this instruction from these bytes. -/
def reads (r : List Byte × Instr) : Bool :=
  match decode r.1 with
  | .ok (i, rest) => decide (i = r.2 ∧ rest = [])
  | .error _ => false

theorem test_decode_truncated :
    decode [] = .error .noOpcode ∧ decode [0xA9] = .error .truncated ∧ decode [0x4C, 0x34] = .error .truncated := by
  decide

/-- Opcodes `0x00` to `0x0F` (rules R143, R281). -/
theorem test_decode_row_0 :
    ([([0x00], .brk), ([0x01, 0x34], .oraIzX 0x34), ([0x02], .jam 0x02), ([0x03, 0x34], .sloIzX 0x34),
     ([0x04, 0x34], .nopZp 0x04 0x34), ([0x05, 0x34], .oraZp 0x34), ([0x06, 0x34], .aslZp 0x34),
     ([0x07, 0x34], .sloZp 0x34), ([0x08], .php), ([0x09, 0x34], .oraImm 0x34), ([0x0A], .aslAcc),
     ([0x0B, 0x34], .ancImm 0x0B 0x34), ([0x0C, 0x34, 0xF2], .nopAbs 0x34 0xF2),
     ([0x0D, 0x34, 0xF2], .oraAbs 0x34 0xF2), ([0x0E, 0x34, 0xF2], .aslAbs 0x34 0xF2),
     ([0x0F, 0x34, 0xF2], .sloAbs 0x34 0xF2)]).all reads = true := by
  decide +kernel

/-- Opcodes `0x10` to `0x1F` (rules R143, R281). -/
theorem test_decode_row_1 :
    ([([0x10, 0x34], .bpl 0x34), ([0x11, 0x34], .oraIzY 0x34), ([0x12], .jam 0x12), ([0x13, 0x34], .sloIzY 0x34),
     ([0x14, 0x34], .nopZpX 0x14 0x34), ([0x15, 0x34], .oraZpX 0x34), ([0x16, 0x34], .aslZpX 0x34),
     ([0x17, 0x34], .sloZpX 0x34), ([0x18], .clc), ([0x19, 0x34, 0xF2], .oraAbsY 0x34 0xF2), ([0x1A], .nopImp 0x1A),
     ([0x1B, 0x34, 0xF2], .sloAbsY 0x34 0xF2), ([0x1C, 0x34, 0xF2], .nopAbsX 0x1C 0x34 0xF2),
     ([0x1D, 0x34, 0xF2], .oraAbsX 0x34 0xF2), ([0x1E, 0x34, 0xF2], .aslAbsX 0x34 0xF2),
     ([0x1F, 0x34, 0xF2], .sloAbsX 0x34 0xF2)]).all reads = true := by
  decide +kernel

/-- Opcodes `0x20` to `0x2F` (rules R143, R281). -/
theorem test_decode_row_2 :
    ([([0x20, 0x34, 0xF2], .jsr 0x34 0xF2), ([0x21, 0x34], .andIzX 0x34), ([0x22], .jam 0x22),
     ([0x23, 0x34], .rlaIzX 0x34), ([0x24, 0x34], .bitZp 0x34), ([0x25, 0x34], .andZp 0x34),
     ([0x26, 0x34], .rolZp 0x34), ([0x27, 0x34], .rlaZp 0x34), ([0x28], .plp), ([0x29, 0x34], .andImm 0x34),
     ([0x2A], .rolAcc), ([0x2B, 0x34], .ancImm 0x2B 0x34), ([0x2C, 0x34, 0xF2], .bitAbs 0x34 0xF2),
     ([0x2D, 0x34, 0xF2], .andAbs 0x34 0xF2), ([0x2E, 0x34, 0xF2], .rolAbs 0x34 0xF2),
     ([0x2F, 0x34, 0xF2], .rlaAbs 0x34 0xF2)]).all reads = true := by
  decide +kernel

/-- Opcodes `0x30` to `0x3F` (rules R143, R281). -/
theorem test_decode_row_3 :
    ([([0x30, 0x34], .bmi 0x34), ([0x31, 0x34], .andIzY 0x34), ([0x32], .jam 0x32), ([0x33, 0x34], .rlaIzY 0x34),
     ([0x34, 0x34], .nopZpX 0x34 0x34), ([0x35, 0x34], .andZpX 0x34), ([0x36, 0x34], .rolZpX 0x34),
     ([0x37, 0x34], .rlaZpX 0x34), ([0x38], .sec), ([0x39, 0x34, 0xF2], .andAbsY 0x34 0xF2), ([0x3A], .nopImp 0x3A),
     ([0x3B, 0x34, 0xF2], .rlaAbsY 0x34 0xF2), ([0x3C, 0x34, 0xF2], .nopAbsX 0x3C 0x34 0xF2),
     ([0x3D, 0x34, 0xF2], .andAbsX 0x34 0xF2), ([0x3E, 0x34, 0xF2], .rolAbsX 0x34 0xF2),
     ([0x3F, 0x34, 0xF2], .rlaAbsX 0x34 0xF2)]).all reads = true := by
  decide +kernel

/-- Opcodes `0x40` to `0x4F` (rules R143, R281). -/
theorem test_decode_row_4 :
    ([([0x40], .rti), ([0x41, 0x34], .eorIzX 0x34), ([0x42], .jam 0x42), ([0x43, 0x34], .sreIzX 0x34),
     ([0x44, 0x34], .nopZp 0x44 0x34), ([0x45, 0x34], .eorZp 0x34), ([0x46, 0x34], .lsrZp 0x34),
     ([0x47, 0x34], .sreZp 0x34), ([0x48], .pha), ([0x49, 0x34], .eorImm 0x34), ([0x4A], .lsrAcc),
     ([0x4B, 0x34], .alr 0x34), ([0x4C, 0x34, 0xF2], .jmpAbs 0x34 0xF2), ([0x4D, 0x34, 0xF2], .eorAbs 0x34 0xF2),
     ([0x4E, 0x34, 0xF2], .lsrAbs 0x34 0xF2), ([0x4F, 0x34, 0xF2], .sreAbs 0x34 0xF2)]).all reads = true := by
  decide +kernel

/-- Opcodes `0x50` to `0x5F` (rules R143, R281). -/
theorem test_decode_row_5 :
    ([([0x50, 0x34], .bvc 0x34), ([0x51, 0x34], .eorIzY 0x34), ([0x52], .jam 0x52), ([0x53, 0x34], .sreIzY 0x34),
     ([0x54, 0x34], .nopZpX 0x54 0x34), ([0x55, 0x34], .eorZpX 0x34), ([0x56, 0x34], .lsrZpX 0x34),
     ([0x57, 0x34], .sreZpX 0x34), ([0x58], .cli), ([0x59, 0x34, 0xF2], .eorAbsY 0x34 0xF2), ([0x5A], .nopImp 0x5A),
     ([0x5B, 0x34, 0xF2], .sreAbsY 0x34 0xF2), ([0x5C, 0x34, 0xF2], .nopAbsX 0x5C 0x34 0xF2),
     ([0x5D, 0x34, 0xF2], .eorAbsX 0x34 0xF2), ([0x5E, 0x34, 0xF2], .lsrAbsX 0x34 0xF2),
     ([0x5F, 0x34, 0xF2], .sreAbsX 0x34 0xF2)]).all reads = true := by
  decide +kernel

/-- Opcodes `0x60` to `0x6F` (rules R143, R281). -/
theorem test_decode_row_6 :
    ([([0x60], .rts), ([0x61, 0x34], .adcIzX 0x34), ([0x62], .jam 0x62), ([0x63, 0x34], .rraIzX 0x34),
     ([0x64, 0x34], .nopZp 0x64 0x34), ([0x65, 0x34], .adcZp 0x34), ([0x66, 0x34], .rorZp 0x34),
     ([0x67, 0x34], .rraZp 0x34), ([0x68], .pla), ([0x69, 0x34], .adcImm 0x34), ([0x6A], .rorAcc),
     ([0x6B, 0x34], .arr 0x34), ([0x6C, 0x34, 0xF2], .jmpInd 0x34 0xF2), ([0x6D, 0x34, 0xF2], .adcAbs 0x34 0xF2),
     ([0x6E, 0x34, 0xF2], .rorAbs 0x34 0xF2), ([0x6F, 0x34, 0xF2], .rraAbs 0x34 0xF2)]).all reads = true := by
  decide +kernel

/-- Opcodes `0x70` to `0x7F` (rules R143, R281). -/
theorem test_decode_row_7 :
    ([([0x70, 0x34], .bvs 0x34), ([0x71, 0x34], .adcIzY 0x34), ([0x72], .jam 0x72), ([0x73, 0x34], .rraIzY 0x34),
     ([0x74, 0x34], .nopZpX 0x74 0x34), ([0x75, 0x34], .adcZpX 0x34), ([0x76, 0x34], .rorZpX 0x34),
     ([0x77, 0x34], .rraZpX 0x34), ([0x78], .sei), ([0x79, 0x34, 0xF2], .adcAbsY 0x34 0xF2), ([0x7A], .nopImp 0x7A),
     ([0x7B, 0x34, 0xF2], .rraAbsY 0x34 0xF2), ([0x7C, 0x34, 0xF2], .nopAbsX 0x7C 0x34 0xF2),
     ([0x7D, 0x34, 0xF2], .adcAbsX 0x34 0xF2), ([0x7E, 0x34, 0xF2], .rorAbsX 0x34 0xF2),
     ([0x7F, 0x34, 0xF2], .rraAbsX 0x34 0xF2)]).all reads = true := by
  decide +kernel

/-- Opcodes `0x80` to `0x8F` (rules R143, R281). -/
theorem test_decode_row_8 :
    ([([0x80, 0x34], .nopImm 0x80 0x34), ([0x81, 0x34], .staIzX 0x34), ([0x82, 0x34], .nopImm 0x82 0x34),
     ([0x83, 0x34], .saxIzX 0x34), ([0x84, 0x34], .styZp 0x34), ([0x85, 0x34], .staZp 0x34),
     ([0x86, 0x34], .stxZp 0x34), ([0x87, 0x34], .saxZp 0x34), ([0x88], .dey), ([0x89, 0x34], .nopImm 0x89 0x34),
     ([0x8A], .txa), ([0x8B, 0x34], .ane 0x34), ([0x8C, 0x34, 0xF2], .styAbs 0x34 0xF2),
     ([0x8D, 0x34, 0xF2], .staAbs 0x34 0xF2), ([0x8E, 0x34, 0xF2], .stxAbs 0x34 0xF2),
     ([0x8F, 0x34, 0xF2], .saxAbs 0x34 0xF2)]).all reads = true := by
  decide +kernel

/-- Opcodes `0x90` to `0x9F` (rules R143, R281). -/
theorem test_decode_row_9 :
    ([([0x90, 0x34], .bcc 0x34), ([0x91, 0x34], .staIzY 0x34), ([0x92], .jam 0x92), ([0x93, 0x34], .shaIzY 0x34),
     ([0x94, 0x34], .styZpX 0x34), ([0x95, 0x34], .staZpX 0x34), ([0x96, 0x34], .stxZpY 0x34),
     ([0x97, 0x34], .saxZpY 0x34), ([0x98], .tya), ([0x99, 0x34, 0xF2], .staAbsY 0x34 0xF2), ([0x9A], .txs),
     ([0x9B, 0x34, 0xF2], .tas 0x34 0xF2), ([0x9C, 0x34, 0xF2], .shy 0x34 0xF2),
     ([0x9D, 0x34, 0xF2], .staAbsX 0x34 0xF2), ([0x9E, 0x34, 0xF2], .shx 0x34 0xF2),
     ([0x9F, 0x34, 0xF2], .shaAbsY 0x34 0xF2)]).all reads = true := by
  decide +kernel

/-- Opcodes `0xA0` to `0xAF` (rules R143, R281). -/
theorem test_decode_row_A :
    ([([0xA0, 0x34], .ldyImm 0x34), ([0xA1, 0x34], .ldaIzX 0x34), ([0xA2, 0x34], .ldxImm 0x34),
     ([0xA3, 0x34], .laxIzX 0x34), ([0xA4, 0x34], .ldyZp 0x34), ([0xA5, 0x34], .ldaZp 0x34),
     ([0xA6, 0x34], .ldxZp 0x34), ([0xA7, 0x34], .laxZp 0x34), ([0xA8], .tay), ([0xA9, 0x34], .ldaImm 0x34),
     ([0xAA], .tax), ([0xAB, 0x34], .lxa 0x34), ([0xAC, 0x34, 0xF2], .ldyAbs 0x34 0xF2),
     ([0xAD, 0x34, 0xF2], .ldaAbs 0x34 0xF2), ([0xAE, 0x34, 0xF2], .ldxAbs 0x34 0xF2),
     ([0xAF, 0x34, 0xF2], .laxAbs 0x34 0xF2)]).all reads = true := by
  decide +kernel

/-- Opcodes `0xB0` to `0xBF` (rules R143, R281). -/
theorem test_decode_row_B :
    ([([0xB0, 0x34], .bcs 0x34), ([0xB1, 0x34], .ldaIzY 0x34), ([0xB2], .jam 0xB2), ([0xB3, 0x34], .laxIzY 0x34),
     ([0xB4, 0x34], .ldyZpX 0x34), ([0xB5, 0x34], .ldaZpX 0x34), ([0xB6, 0x34], .ldxZpY 0x34),
     ([0xB7, 0x34], .laxZpY 0x34), ([0xB8], .clv), ([0xB9, 0x34, 0xF2], .ldaAbsY 0x34 0xF2), ([0xBA], .tsx),
     ([0xBB, 0x34, 0xF2], .las 0x34 0xF2), ([0xBC, 0x34, 0xF2], .ldyAbsX 0x34 0xF2),
     ([0xBD, 0x34, 0xF2], .ldaAbsX 0x34 0xF2), ([0xBE, 0x34, 0xF2], .ldxAbsY 0x34 0xF2),
     ([0xBF, 0x34, 0xF2], .laxAbsY 0x34 0xF2)]).all reads = true := by
  decide +kernel

/-- Opcodes `0xC0` to `0xCF` (rules R143, R281). -/
theorem test_decode_row_C :
    ([([0xC0, 0x34], .cpyImm 0x34), ([0xC1, 0x34], .cmpIzX 0x34), ([0xC2, 0x34], .nopImm 0xC2 0x34),
     ([0xC3, 0x34], .dcpIzX 0x34), ([0xC4, 0x34], .cpyZp 0x34), ([0xC5, 0x34], .cmpZp 0x34),
     ([0xC6, 0x34], .decZp 0x34), ([0xC7, 0x34], .dcpZp 0x34), ([0xC8], .iny), ([0xC9, 0x34], .cmpImm 0x34),
     ([0xCA], .dex), ([0xCB, 0x34], .sbx 0x34), ([0xCC, 0x34, 0xF2], .cpyAbs 0x34 0xF2),
     ([0xCD, 0x34, 0xF2], .cmpAbs 0x34 0xF2), ([0xCE, 0x34, 0xF2], .decAbs 0x34 0xF2),
     ([0xCF, 0x34, 0xF2], .dcpAbs 0x34 0xF2)]).all reads = true := by
  decide +kernel

/-- Opcodes `0xD0` to `0xDF` (rules R143, R281). -/
theorem test_decode_row_D :
    ([([0xD0, 0x34], .bne 0x34), ([0xD1, 0x34], .cmpIzY 0x34), ([0xD2], .jam 0xD2), ([0xD3, 0x34], .dcpIzY 0x34),
     ([0xD4, 0x34], .nopZpX 0xD4 0x34), ([0xD5, 0x34], .cmpZpX 0x34), ([0xD6, 0x34], .decZpX 0x34),
     ([0xD7, 0x34], .dcpZpX 0x34), ([0xD8], .cld), ([0xD9, 0x34, 0xF2], .cmpAbsY 0x34 0xF2), ([0xDA], .nopImp 0xDA),
     ([0xDB, 0x34, 0xF2], .dcpAbsY 0x34 0xF2), ([0xDC, 0x34, 0xF2], .nopAbsX 0xDC 0x34 0xF2),
     ([0xDD, 0x34, 0xF2], .cmpAbsX 0x34 0xF2), ([0xDE, 0x34, 0xF2], .decAbsX 0x34 0xF2),
     ([0xDF, 0x34, 0xF2], .dcpAbsX 0x34 0xF2)]).all reads = true := by
  decide +kernel

/-- Opcodes `0xE0` to `0xEF` (rules R143, R281). -/
theorem test_decode_row_E :
    ([([0xE0, 0x34], .cpxImm 0x34), ([0xE1, 0x34], .sbcIzX 0x34), ([0xE2, 0x34], .nopImm 0xE2 0x34),
     ([0xE3, 0x34], .iscIzX 0x34), ([0xE4, 0x34], .cpxZp 0x34), ([0xE5, 0x34], .sbcZp 0x34),
     ([0xE6, 0x34], .incZp 0x34), ([0xE7, 0x34], .iscZp 0x34), ([0xE8], .inx), ([0xE9, 0x34], .sbcImm 0x34),
     ([0xEA], .nop), ([0xEB, 0x34], .usbc 0x34), ([0xEC, 0x34, 0xF2], .cpxAbs 0x34 0xF2),
     ([0xED, 0x34, 0xF2], .sbcAbs 0x34 0xF2), ([0xEE, 0x34, 0xF2], .incAbs 0x34 0xF2),
     ([0xEF, 0x34, 0xF2], .iscAbs 0x34 0xF2)]).all reads = true := by
  decide +kernel

/-- Opcodes `0xF0` to `0xFF` (rules R143, R281). -/
theorem test_decode_row_F :
    ([([0xF0, 0x34], .beq 0x34), ([0xF1, 0x34], .sbcIzY 0x34), ([0xF2], .jam 0xF2), ([0xF3, 0x34], .iscIzY 0x34),
     ([0xF4, 0x34], .nopZpX 0xF4 0x34), ([0xF5, 0x34], .sbcZpX 0x34), ([0xF6, 0x34], .incZpX 0x34),
     ([0xF7, 0x34], .iscZpX 0x34), ([0xF8], .sed), ([0xF9, 0x34, 0xF2], .sbcAbsY 0x34 0xF2), ([0xFA], .nopImp 0xFA),
     ([0xFB, 0x34, 0xF2], .iscAbsY 0x34 0xF2), ([0xFC, 0x34, 0xF2], .nopAbsX 0xFC 0x34 0xF2),
     ([0xFD, 0x34, 0xF2], .sbcAbsX 0x34 0xF2), ([0xFE, 0x34, 0xF2], .incAbsX 0x34 0xF2),
     ([0xFF, 0x34, 0xF2], .iscAbsX 0x34 0xF2)]).all reads = true := by
  decide +kernel

/-! ### Single steps, from the test vectors of spec/95_test_vectors.md -/

/-- The registers A, X, Y, S, PC, and the flags as the byte `N V - - D I Z C`. -/
def regs (a x y sp : Byte) (pc : Word) (p : Byte) : Cpu := ⟨a, x, y, sp, pc, flagsOf p⟩

/-- The start of a vector: the default reset state with the program counter at `0xF000`, or where the vector puts it,
and with these image bytes, RAM bytes and registers. -/
def start (rom ram : Memory) (cpu : Cpu) : State :=
  { State.reset with cpu := cpu, ram := ram, map := { State.reset.map with rom := rom } }

/-- The same under another policy for the undocumented opcodes. -/
def under (k : IllegalPolicy) (s : State) : State := { s with par := { s.par with illegalPolicy := k } }

/-- The next state of an outcome that has one. -/
def next (o : Result) : State :=
  match o with
  | .next t => t
  | .fault _ => State.reset
  | .refused _ => State.reset

/-- Whether a step of the state ends with these registers, this RAM and this number of cycles. -/
def endsWith (s : State) (cpu : Cpu) (ram : Memory) (cycles : Nat) : Bool :=
  let t := next (step s)
  decide (t.cpu = cpu ∧ t.ram = ram ∧ t.cyc = cycles ∧ t.fault = none)

/-- T40-1: LDA #0. -/
theorem test_T40_1 :
    endsWith
      (start [(0x0, 0xA9)] [] (regs 0x55 0x00 0x00 0xFD 0xF000 0x04))
      (regs 0x00 0x00 0x00 0xFD 0xF002 0x06) [] 2 = true := by
  decide +kernel

/-- T40-4: LDA zp,X wraps in page 0. -/
theorem test_T40_4 :
    endsWith
      (start [(0x0, 0xB5), (0x1, 0x90)] [(0x0, 0x77)] (regs 0x00 0xF0 0x00 0xFD 0xF000 0x04))
      (regs 0x77 0xF0 0x00 0xFD 0xF002 0x04) [(0x0, 0x77)] 4 = true := by
  decide +kernel

/-- T40-7: LDA abs,Y cross into RAM mirror. -/
theorem test_T40_7 :
    endsWith
      (start [(0x0, 0xB9), (0x1, 0xC0)] [(0x1, 0xE1)] (regs 0x00 0x00 0xC1 0xFD 0xF000 0x04))
      (regs 0xE1 0x00 0xC1 0xFD 0xF003 0x84) [(0x1, 0xE1)] 5 = true := by
  decide +kernel

/-- T40-10: LDA (zp),Y cross. -/
theorem test_T40_10 :
    endsWith
      (start [(0x0, 0xB1), (0x1, 0x90), (0x108, 0x11), (0x208, 0x6B)] [(0x10, 0xF8), (0x11, 0xF1)]
        (regs 0x00 0x00 0x10 0xFD 0xF000 0x04))
      (regs 0x6B 0x00 0x10 0xFD 0xF002 0x04) [(0x10, 0xF8), (0x11, 0xF1)] 6 = true := by
  decide +kernel

/-- T40-13: LDX abs,Y cross. -/
theorem test_T40_13 :
    endsWith
      (start [(0x0, 0xBE), (0x1, 0xFF), (0x2, 0xF1)] [] (regs 0x00 0x00 0x01 0xFD 0xF000 0x04))
      (regs 0x00 0x00 0x01 0xFD 0xF003 0x06) [] 5 = true := by
  decide +kernel

/-- T40-14: LDY abs,X. -/
theorem test_T40_14 :
    endsWith
      (start [(0x0, 0xBC), (0x2, 0xF1), (0x102, 0x7F)] [] (regs 0x00 0x02 0x00 0xFD 0xF000 0x04))
      (regs 0x00 0x02 0x7F 0xFD 0xF003 0x04) [] 4 = true := by
  decide +kernel

/-- T40-18: STA abs,Y cross; dummy read at uncorrected address. -/
theorem test_T40_18 :
    endsWith
      (start [(0x0, 0x99), (0x1, 0xF0)] [] (regs 0x34 0x00 0x90 0xFD 0xF000 0x04))
      (regs 0x34 0x00 0x90 0xFD 0xF003 0x04) [(0x0, 0x34)] 5 = true := by
  decide +kernel

/-- T40-20: STA (zp),Y always 6. -/
theorem test_T40_20 :
    endsWith
      (start [(0x0, 0x91), (0x1, 0x90)] [(0x10, 0x84)] (regs 0x78 0x00 0x02 0xFD 0xF000 0x04))
      (regs 0x78 0x00 0x02 0xFD 0xF002 0x04) [(0x6, 0x78), (0x10, 0x84)] 6 = true := by
  decide +kernel

/-- T40-21: STX zp,Y. -/
theorem test_T40_21 :
    endsWith
      (start [(0x0, 0x96), (0x1, 0x80)] [] (regs 0x00 0x9A 0x07 0xFD 0xF000 0x04))
      (regs 0x00 0x9A 0x07 0xFD 0xF002 0x04) [(0x7, 0x9A)] 4 = true := by
  decide +kernel

/-- T40-22: STY zp,X. -/
theorem test_T40_22 :
    endsWith
      (start [(0x0, 0x94), (0x1, 0x80)] [] (regs 0x00 0x08 0xBC 0xFD 0xF000 0x04))
      (regs 0x00 0x08 0xBC 0xFD 0xF002 0x04) [(0x8, 0xBC)] 4 = true := by
  decide +kernel

/-- T40-24: TAX. -/
theorem test_T40_24 :
    endsWith
      (start [(0x0, 0xAA)] [] (regs 0x80 0x00 0x00 0xFD 0xF000 0x04))
      (regs 0x80 0x80 0x00 0xFD 0xF001 0x84) [] 2 = true := by
  decide +kernel

/-- T40-25: TAY zero. -/
theorem test_T40_25 :
    endsWith
      (start [(0x0, 0xA8)] [] (regs 0x00 0x00 0x11 0xFD 0xF000 0x04))
      (regs 0x00 0x00 0x00 0xFD 0xF001 0x06) [] 2 = true := by
  decide +kernel

/-- T40-26: TXA. -/
theorem test_T40_26 :
    endsWith
      (start [(0x0, 0x8A)] [] (regs 0xFF 0x7F 0x00 0xFD 0xF000 0x04))
      (regs 0x7F 0x7F 0x00 0xFD 0xF001 0x04) [] 2 = true := by
  decide +kernel

/-- T40-27: TYA. -/
theorem test_T40_27 :
    endsWith
      (start [(0x0, 0x98)] [] (regs 0xFF 0x00 0x00 0xFD 0xF000 0x04))
      (regs 0x00 0x00 0x00 0xFD 0xF001 0x06) [] 2 = true := by
  decide +kernel

/-- T40-28: TSX. -/
theorem test_T40_28 :
    endsWith
      (start [(0x0, 0xBA)] [] (regs 0x00 0x00 0x00 0xFD 0xF000 0x04))
      (regs 0x00 0xFD 0x00 0xFD 0xF001 0x84) [] 2 = true := by
  decide +kernel

/-- T40-29: TXS no flags. -/
theorem test_T40_29 :
    endsWith
      (start [(0x0, 0x9A)] [] (regs 0x00 0x00 0x00 0xFD 0xF000 0x80))
      (regs 0x00 0x00 0x00 0x00 0xF001 0x80) [] 2 = true := by
  decide +kernel

/-- T40-30: PHA. -/
theorem test_T40_30 :
    endsWith
      (start [(0x0, 0x48)] [] (regs 0xC4 0x00 0x00 0xFF 0xF000 0x04))
      (regs 0xC4 0x00 0x00 0xFE 0xF001 0x04) [(0x7F, 0xC4)] 3 = true := by
  decide +kernel

/-- The trace of T40-30: PHA makes these three accesses (rule R183) and no other. -/
theorem test_T40_30_trace :
    let s := start [(0x0, 0x48)] [] (regs 0xC4 0x00 0x00 0xFF 0xF000 0x04)
    next (exec .pha s) = (busCycles [.read 0xF000, .read 0xF001, .write 0x01FF 0xC4] s).setCpu
      (regs 0xC4 0x00 0x00 0xFE 0xF001 0x04) := by
  decide +kernel

/-- T40-31: PHP pushes B and bit 5. -/
theorem test_T40_31 :
    endsWith
      (start [(0x0, 0x08)] [] (regs 0x00 0x00 0x00 0xFF 0xF000 0xC3))
      (regs 0x00 0x00 0x00 0xFE 0xF001 0xC3) [(0x7F, 0xF3)] 3 = true := by
  decide +kernel

/-- The trace of T40-31: PHP makes these three accesses (rule R184) and no other. -/
theorem test_T40_31_trace :
    let s := start [(0x0, 0x08)] [] (regs 0x00 0x00 0x00 0xFF 0xF000 0xC3)
    next (exec .php s) = (busCycles [.read 0xF000, .read 0xF001, .write 0x01FF 0xF3] s).setCpu
      (regs 0x00 0x00 0x00 0xFE 0xF001 0xC3) := by
  decide +kernel

/-- T40-33: PLA. -/
theorem test_T40_33 :
    endsWith
      (start [(0x0, 0x68)] [] (regs 0x55 0x00 0x00 0xFE 0xF000 0x04))
      (regs 0x00 0x00 0x00 0xFF 0xF001 0x06) [] 4 = true := by
  decide +kernel

/-- T40-34: PLP ignores bits 5, 4. -/
theorem test_T40_34 :
    endsWith
      (start [(0x0, 0x28)] [(0x7F, 0xFF)] (regs 0x00 0x00 0x00 0xFE 0xF000 0x04))
      (regs 0x00 0x00 0x00 0xFF 0xF001 0xCF) [(0x7F, 0xFF)] 4 = true := by
  decide +kernel

/-- T41-2: ADC 0xD0+0x90: carry and overflow. -/
theorem test_T41_2 :
    endsWith
      (start [(0x0, 0x69), (0x1, 0x90)] [] (regs 0xD0 0x00 0x00 0xFD 0xF000 0x04))
      (regs 0x60 0x00 0x00 0xFD 0xF002 0x45) [] 2 = true := by
  decide +kernel

/-- T41-13: ADC bcd 0x58+0x46+C. -/
theorem test_T41_13 :
    endsWith
      ({ start [(0x0, 0x69), (0x1, 0x46)] [] (regs 0x58 0x00 0x00 0xFD 0xF000 0x09) with
        par := { Params.default with decimalMode := .nmosBcd } })
      (regs 0x05 0x00 0x00 0xFD 0xF002 0xC9) [] 2 = true := by
  decide +kernel

/-- T41-20: SBC 0x80-0x01: overflow. -/
theorem test_T41_20 :
    endsWith
      (start [(0x0, 0xE9), (0x1, 0x01)] [] (regs 0x80 0x00 0x00 0xFD 0xF000 0x01))
      (regs 0x7F 0x00 0x00 0xFD 0xF002 0x41) [] 2 = true := by
  decide +kernel

/-- T41-24: SBC bcd 0x00-0x01: 0x99, C=0. -/
theorem test_T41_24 :
    endsWith
      ({ start [(0x0, 0xE9), (0x1, 0x01)] [] (regs 0x00 0x00 0x00 0xFD 0xF000 0x09) with
        par := { Params.default with decimalMode := .nmosBcd } })
      (regs 0x99 0x00 0x00 0xFD 0xF002 0x88) [] 2 = true := by
  decide +kernel

/-- T41-28: AND to zero. -/
theorem test_T41_28 :
    endsWith
      (start [(0x0, 0x29)] [] (regs 0xFF 0x00 0x00 0xFD 0xF000 0x04))
      (regs 0x00 0x00 0x00 0xFD 0xF002 0x06) [] 2 = true := by
  decide +kernel

/-- T41-29: ORA. -/
theorem test_T41_29 :
    endsWith
      (start [(0x0, 0x09), (0x1, 0x80)] [] (regs 0x01 0x00 0x00 0xFD 0xF000 0x04))
      (regs 0x81 0x00 0x00 0xFD 0xF002 0x84) [] 2 = true := by
  decide +kernel

/-- T41-31: EOR. -/
theorem test_T41_31 :
    endsWith
      (start [(0x0, 0x49), (0x1, 0xFF)] [] (regs 0x0F 0x00 0x00 0xFD 0xF000 0x04))
      (regs 0xF0 0x00 0x00 0xFD 0xF002 0x84) [] 2 = true := by
  decide +kernel

/-- T41-34: CMP less. -/
theorem test_T41_34 :
    endsWith
      (start [(0x0, 0xC9), (0x1, 0x41)] [] (regs 0x40 0x00 0x00 0xFD 0xF000 0x04))
      (regs 0x40 0x00 0x00 0xFD 0xF002 0x84) [] 2 = true := by
  decide +kernel

/-- T41-39: CPX zp. -/
theorem test_T41_39 :
    endsWith
      (start [(0x0, 0xE4), (0x1, 0x80)] [(0x0, 0x01)] (regs 0x00 0x00 0x00 0xFD 0xF000 0x04))
      (regs 0x00 0x00 0x00 0xFD 0xF002 0x84) [(0x0, 0x01)] 3 = true := by
  decide +kernel

/-- T41-41: CPY abs. -/
theorem test_T41_41 :
    endsWith
      (start [(0x0, 0xCC), (0x1, 0x80)] [(0x0, 0x80)] (regs 0x00 0x00 0x7F 0xFD 0xF000 0x04))
      (regs 0x00 0x00 0x7F 0xFD 0xF003 0x84) [(0x0, 0x80)] 4 = true := by
  decide +kernel

/-- T41-42: BIT zp: N, V from memory, Z from A and m. -/
theorem test_T41_42 :
    endsWith
      (start [(0x0, 0x24), (0x1, 0x80)] [(0x0, 0xC0)] (regs 0x01 0x00 0x00 0xFD 0xF000 0x04))
      (regs 0x01 0x00 0x00 0xFD 0xF002 0xC6) [(0x0, 0xC0)] 3 = true := by
  decide +kernel

/-- T41-46: INC abs,X 7 cycles. -/
theorem test_T41_46 :
    endsWith
      (start [(0x0, 0xFE), (0x1, 0x80)] [(0x1, 0x7F)] (regs 0x00 0x01 0x00 0xFD 0xF000 0x04))
      (regs 0x00 0x01 0x00 0xFD 0xF003 0x84) [(0x1, 0x80)] 7 = true := by
  decide +kernel

/-- T41-48: DEC zp,X to zero. -/
theorem test_T41_48 :
    endsWith
      (start [(0x0, 0xD6), (0x1, 0x80)] [(0x2, 0x01)] (regs 0x00 0x02 0x00 0xFD 0xF000 0x04))
      (regs 0x00 0x02 0x00 0xFD 0xF002 0x06) [] 6 = true := by
  decide +kernel

/-- T41-50: INX wraps. -/
theorem test_T41_50 :
    endsWith
      (start [(0x0, 0xE8)] [] (regs 0x00 0xFF 0x00 0xFD 0xF000 0x04))
      (regs 0x00 0x00 0x00 0xFD 0xF001 0x06) [] 2 = true := by
  decide +kernel

/-- T41-51: INY. -/
theorem test_T41_51 :
    endsWith
      (start [(0x0, 0xC8)] [] (regs 0x00 0x00 0x7F 0xFD 0xF000 0x04))
      (regs 0x00 0x00 0x80 0xFD 0xF001 0x84) [] 2 = true := by
  decide +kernel

/-- T41-52: DEX. -/
theorem test_T41_52 :
    endsWith
      (start [(0x0, 0xCA)] [] (regs 0x00 0x01 0x00 0xFD 0xF000 0x04))
      (regs 0x00 0x00 0x00 0xFD 0xF001 0x06) [] 2 = true := by
  decide +kernel

/-- T41-53: DEY wraps. -/
theorem test_T41_53 :
    endsWith
      (start [(0x0, 0x88)] [] (regs 0x00 0x00 0x00 0xFD 0xF000 0x04))
      (regs 0x00 0x00 0xFF 0xFD 0xF001 0x84) [] 2 = true := by
  decide +kernel

/-- T41-57: ASL zp. -/
theorem test_T41_57 :
    endsWith
      (start [(0x0, 0x06), (0x1, 0x80)] [(0x0, 0xC1)] (regs 0x00 0x00 0x00 0xFD 0xF000 0x04))
      (regs 0x00 0x00 0x00 0xFD 0xF002 0x85) [(0x0, 0x82)] 5 = true := by
  decide +kernel

/-- T41-59: LSR A clears N. -/
theorem test_T41_59 :
    endsWith
      (start [(0x0, 0x4A)] [] (regs 0xFF 0x00 0x00 0xFD 0xF000 0x80))
      (regs 0x7F 0x00 0x00 0xFD 0xF001 0x01) [] 2 = true := by
  decide +kernel

/-- T41-63: ROL zp,X. -/
theorem test_T41_63 :
    endsWith
      (start [(0x0, 0x36), (0x1, 0x80)] [(0x1, 0xFF)] (regs 0x00 0x01 0x00 0xFD 0xF000 0x00))
      (regs 0x00 0x01 0x00 0xFD 0xF002 0x81) [(0x1, 0xFE)] 6 = true := by
  decide +kernel

/-- T41-66: ROR abs,X. -/
theorem test_T41_66 :
    endsWith
      (start [(0x0, 0x7E), (0x1, 0x80)] [(0x0, 0x02)] (regs 0x00 0x00 0x00 0xFD 0xF000 0x01))
      (regs 0x00 0x00 0x00 0xFD 0xF003 0x80) [(0x0, 0x81)] 7 = true := by
  decide +kernel

/-- T42-5: BCC taken backward across page (at 0xF100, d=-3). -/
theorem test_T42_5 :
    endsWith
      (start [(0x100, 0x90), (0x101, 0xFD)] [] (regs 0x00 0x00 0x00 0xFD 0xF100 0x00))
      (regs 0x00 0x00 0x00 0xFD 0xF0FF 0x00) [] 4 = true := by
  decide +kernel

/-- T42-8: BCS taken. -/
theorem test_T42_8 :
    endsWith
      (start [(0x0, 0xB0), (0x1, 0x7F)] [] (regs 0x00 0x00 0x00 0xFD 0xF000 0x01))
      (regs 0x00 0x00 0x00 0xFD 0xF081 0x01) [] 3 = true := by
  decide +kernel

/-- T42-6: BEQ at 0xF0FD, d=+1: next instruction is 0xF0FF, target 0xF100. -/
theorem test_T42_6 :
    endsWith
      (start [(0xFD, 0xF0), (0xFE, 0x01)] [] (regs 0x00 0x00 0x00 0xFD 0xF0FD 0x02))
      (regs 0x00 0x00 0x00 0xFD 0xF100 0x02) [] 4 = true := by
  decide +kernel

/-- T42-3: BNE to itself. -/
theorem test_T42_3 :
    endsWith
      (start [(0x0, 0xD0), (0x1, 0xFE)] [] (regs 0x00 0x00 0x00 0xFD 0xF000 0x00))
      (regs 0x00 0x00 0x00 0xFD 0xF000 0x00) [] 3 = true := by
  decide +kernel

/-- T42-7: BMI at 0xF0FE d=0: target = next = 0xF100, no cross (page of next). -/
theorem test_T42_7 :
    endsWith
      (start [(0xFE, 0x30)] [] (regs 0x00 0x00 0x00 0xFD 0xF0FE 0x80))
      (regs 0x00 0x00 0x00 0xFD 0xF100 0x80) [] 3 = true := by
  decide +kernel

/-- T42-11: BPL taken. -/
theorem test_T42_11 :
    endsWith
      (start [(0x0, 0x10), (0x1, 0x05)] [] (regs 0x00 0x00 0x00 0xFD 0xF000 0x00))
      (regs 0x00 0x00 0x00 0xFD 0xF007 0x00) [] 3 = true := by
  decide +kernel

/-- T42-12: BVC taken. -/
theorem test_T42_12 :
    endsWith
      (start [(0x0, 0x50), (0x1, 0x02)] [] (regs 0x00 0x00 0x00 0xFD 0xF000 0x00))
      (regs 0x00 0x00 0x00 0xFD 0xF004 0x00) [] 3 = true := by
  decide +kernel

/-- T42-14: BVS taken. -/
theorem test_T42_14 :
    endsWith
      (start [(0x0, 0x70), (0x1, 0x02)] [] (regs 0x00 0x00 0x00 0xFD 0xF000 0x40))
      (regs 0x00 0x00 0x00 0xFD 0xF004 0x40) [] 3 = true := by
  decide +kernel

/-- T42-16: CLC. -/
theorem test_T42_16 :
    endsWith
      (start [(0x0, 0x18)] [] (regs 0x00 0x00 0x00 0xFD 0xF000 0xCF))
      (regs 0x00 0x00 0x00 0xFD 0xF001 0xCE) [] 2 = true := by
  decide +kernel

/-- T42-17: SEC. -/
theorem test_T42_17 :
    endsWith
      (start [(0x0, 0x38)] [] (regs 0x00 0x00 0x00 0xFD 0xF000 0x00))
      (regs 0x00 0x00 0x00 0xFD 0xF001 0x01) [] 2 = true := by
  decide +kernel

/-- T42-18: CLI. -/
theorem test_T42_18 :
    endsWith
      (start [(0x0, 0x58)] [] (regs 0x00 0x00 0x00 0xFD 0xF000 0x04))
      (regs 0x00 0x00 0x00 0xFD 0xF001 0x00) [] 2 = true := by
  decide +kernel

/-- T42-19: SEI. -/
theorem test_T42_19 :
    endsWith
      (start [(0x0, 0x78)] [] (regs 0x00 0x00 0x00 0xFD 0xF000 0x00))
      (regs 0x00 0x00 0x00 0xFD 0xF001 0x04) [] 2 = true := by
  decide +kernel

/-- T42-20: CLD. -/
theorem test_T42_20 :
    endsWith
      (start [(0x0, 0xD8)] [] (regs 0x00 0x00 0x00 0xFD 0xF000 0x08))
      (regs 0x00 0x00 0x00 0xFD 0xF001 0x00) [] 2 = true := by
  decide +kernel

/-- T42-21: SED. -/
theorem test_T42_21 :
    endsWith
      (start [(0x0, 0xF8)] [] (regs 0x00 0x00 0x00 0xFD 0xF000 0x00))
      (regs 0x00 0x00 0x00 0xFD 0xF001 0x08) [] 2 = true := by
  decide +kernel

/-- T42-22: CLV. -/
theorem test_T42_22 :
    endsWith
      (start [(0x0, 0xB8)] [] (regs 0x00 0x00 0x00 0xFD 0xF000 0x40))
      (regs 0x00 0x00 0x00 0xFD 0xF001 0x00) [] 2 = true := by
  decide +kernel

/-- T42-23: NOP. -/
theorem test_T42_23 :
    endsWith
      (start [(0x0, 0xEA)] [] (regs 0x00 0x00 0x00 0xFD 0xF000 0xC3))
      (regs 0x00 0x00 0x00 0xFD 0xF001 0xC3) [] 2 = true := by
  decide +kernel

/-- T42-25: JMP abs to a mirror: PC keeps 16 bits. -/
theorem test_T42_25 :
    endsWith
      (start [(0x0, 0x4C), (0x1, 0x34), (0x2, 0x12)] [] (regs 0x00 0x00 0x00 0xFD 0xF000 0x04))
      (regs 0x00 0x00 0x00 0xFD 0x1234 0x04) [] 3 = true := by
  decide +kernel

/-- T42-27: JMP (abs) pointer at page end: high byte from 0xF100. -/
theorem test_T42_27 :
    endsWith
      (start [(0x0, 0x6C), (0x1, 0xFF), (0x2, 0xF1), (0x100, 0xF5), (0x1FF, 0x78), (0x200, 0xF6)] []
        (regs 0x00 0x00 0x00 0xFD 0xF000 0x04))
      (regs 0x00 0x00 0x00 0xFD 0xF578 0x04) [] 5 = true := by
  decide +kernel

/-- T42-28: JSR (at 0xF010). -/
theorem test_T42_28 :
    endsWith
      (start [(0x10, 0x20), (0x11, 0x34), (0x12, 0xF2)] [] (regs 0x00 0x00 0x00 0xFF 0xF010 0x04))
      (regs 0x00 0x00 0x00 0xFD 0xF234 0x04) [(0x7E, 0x12), (0x7F, 0xF0)] 6 = true := by
  decide +kernel

/-- T42-30: RTS alone: pulls 0xF2FF, continues at 0xF300. -/
theorem test_T42_30 :
    endsWith
      (start [(0x300, 0x60)] [(0x7E, 0xFF), (0x7F, 0xF2)] (regs 0x00 0x00 0x00 0xFD 0xF300 0x04))
      (regs 0x00 0x00 0x00 0xFF 0xF300 0x04) [(0x7E, 0xFF), (0x7F, 0xF2)] 6 = true := by
  decide +kernel

/-- T42-31: BRK at 0xF100, image BRK vector 00 F3. -/
theorem test_T42_31 :
    endsWith
      (start [(0x101, 0xEA), (0x300, 0x40), (0xFFF, 0xF3)] [] (regs 0x00 0x00 0x00 0xFF 0xF100 0x01))
      (regs 0x00 0x00 0x00 0xFC 0xF300 0x05) [(0x7D, 0x31), (0x7E, 0x02), (0x7F, 0xF1)] 7 = true := by
  decide +kernel

/-- The trace of T42-31: BRK makes these seven accesses (rule R262) and no other. -/
theorem test_T42_31_trace :
    let s := start [(0x101, 0xEA), (0x300, 0x40), (0xFFF, 0xF3)] [] (regs 0x00 0x00 0x00 0xFF 0xF100 0x01)
    next (exec .brk s) = (busCycles [.read 0xF100, .read 0xF101, .write 0x01FF 0xF1, .write 0x01FE 0x02,
      .write 0x01FD 0x31, .read 0xFFFE, .read 0xFFFF] s).setCpu
      (regs 0x00 0x00 0x00 0xFC 0xF300 0x05) := by
  decide +kernel

/-- T42-34: RTI alone: P from 0xFF, PC = 0xF400. -/
theorem test_T42_34 :
    endsWith
      (start [(0x0, 0x40)] [(0x7D, 0xFF), (0x7F, 0xF4)] (regs 0x00 0x00 0x00 0xFC 0xF000 0x04))
      (regs 0x00 0x00 0x00 0xFF 0xF400 0xCF) [(0x7D, 0xFF), (0x7F, 0xF4)] 6 = true := by
  decide +kernel

/-- T43-8: nop policy: 0x1C abx 4, no +p, no access at the operand address. -/
theorem test_T43_8 :
    endsWith
      (under .nop (start [(0x0, 0x1C), (0x1, 0xF0), (0x2, 0x02)] [] (regs 0x00 0x20 0x00 0xFD 0xF000 0x04)))
      (regs 0x00 0x20 0x00 0xFD 0xF003 0x04) [] 4 = true := by
  decide +kernel

/-- T43-10: nop policy: JAM 0x02 is 2 cycles, PC+1. -/
theorem test_T43_10 :
    endsWith
      (under .nop (start [(0x0, 0x02)] [] (regs 0x00 0x00 0x00 0xFD 0xF000 0x04)))
      (regs 0x00 0x00 0x00 0xFD 0xF001 0x04) [] 2 = true := by
  decide +kernel

/-- T43-13: emulate: NOP abs,X cross 5 cycles. -/
theorem test_T43_13 :
    endsWith
      (under .emulateStable (start [(0x0, 0x1C), (0x1, 0xF0), (0x2, 0xF1)] [] (regs 0x00 0x20 0x00 0xFD 0xF000 0x04)))
      (regs 0x00 0x20 0x00 0xFD 0xF003 0x04) [] 5 = true := by
  decide +kernel

/-- T43-16: emulate: LAX (zp),Y cross. -/
theorem test_T43_16 :
    endsWith
      (under .emulateStable (start [(0x0, 0xB3), (0x1, 0x90)] [(0x10, 0xF8), (0x11, 0xF1)]
        (regs 0x00 0x00 0x10 0xFD 0xF000 0x04)))
      (regs 0x00 0x00 0x10 0xFD 0xF002 0x06) [(0x10, 0xF8), (0x11, 0xF1)] 6 = true := by
  decide +kernel

/-- T43-18: emulate: SAX zp. -/
theorem test_T43_18 :
    endsWith
      (under .emulateStable (start [(0x0, 0x87), (0x1, 0x80)] [] (regs 0xF0 0x3C 0x00 0xFD 0xF000 0x82)))
      (regs 0xF0 0x3C 0x00 0xFD 0xF002 0x82) [(0x0, 0x30)] 3 = true := by
  decide +kernel

/-- T43-20: emulate: SLO zp. -/
theorem test_T43_20 :
    endsWith
      (under .emulateStable (start [(0x0, 0x07), (0x1, 0x80)] [(0x0, 0xC0)] (regs 0x01 0x00 0x00 0xFD 0xF000 0x04)))
      (regs 0x81 0x00 0x00 0xFD 0xF002 0x85) [(0x0, 0x80)] 5 = true := by
  decide +kernel

/-- T43-21: emulate: RLA zp. -/
theorem test_T43_21 :
    endsWith
      (under .emulateStable (start [(0x0, 0x27), (0x1, 0x80)] [(0x0, 0x40)] (regs 0xFF 0x00 0x00 0xFD 0xF000 0x01)))
      (regs 0x81 0x00 0x00 0xFD 0xF002 0x80) [(0x0, 0x81)] 5 = true := by
  decide +kernel

/-- T43-22: emulate: SRE abs. -/
theorem test_T43_22 :
    endsWith
      (under .emulateStable (start [(0x0, 0x4F), (0x1, 0x80)] [(0x0, 0x03)] (regs 0xFF 0x00 0x00 0xFD 0xF000 0x04)))
      (regs 0xFE 0x00 0x00 0xFD 0xF003 0x85) [(0x0, 0x01)] 6 = true := by
  decide +kernel

/-- T43-23: emulate: RRA zp: ROR then ADC with the new carry. -/
theorem test_T43_23 :
    endsWith
      (under .emulateStable (start [(0x0, 0x67), (0x1, 0x80)] [(0x0, 0x03)] (regs 0x10 0x00 0x00 0xFD 0xF000 0x00)))
      (regs 0x12 0x00 0x00 0xFD 0xF002 0x00) [(0x0, 0x01)] 5 = true := by
  decide +kernel

/-- T43-25: emulate: DCP abs,Y 7 cycles. -/
theorem test_T43_25 :
    endsWith
      (under .emulateStable (start [(0x0, 0xDB), (0x1, 0x80)] [] (regs 0x00 0x00 0x01 0xFD 0xF000 0x04)))
      (regs 0x00 0x00 0x01 0xFD 0xF003 0x04) [(0x1, 0xFF)] 7 = true := by
  decide +kernel

/-- T43-27: emulate: ISC (zp,X) 8 cycles. -/
theorem test_T43_27 :
    endsWith
      (under .emulateStable (start [(0x0, 0xE3), (0x1, 0x90)] [(0x0, 0xFF), (0x10, 0x80)]
        (regs 0x00 0x00 0x00 0xFD 0xF000 0x01)))
      (regs 0x00 0x00 0x00 0xFD 0xF002 0x03) [(0x10, 0x80)] 8 = true := by
  decide +kernel

/-- T43-30: emulate: ANC 0x2B positive. -/
theorem test_T43_30 :
    endsWith
      (under .emulateStable (start [(0x0, 0x2B), (0x1, 0x0F)] [] (regs 0x8F 0x00 0x00 0xFD 0xF000 0x01)))
      (regs 0x0F 0x00 0x00 0xFD 0xF002 0x00) [] 2 = true := by
  decide +kernel

/-- T43-31: emulate: ALR. -/
theorem test_T43_31 :
    endsWith
      (under .emulateStable (start [(0x0, 0x4B), (0x1, 0x03)] [] (regs 0xFF 0x00 0x00 0xFD 0xF000 0x04)))
      (regs 0x01 0x00 0x00 0xFD 0xF002 0x05) [] 2 = true := by
  decide +kernel

/-- T43-33: emulate: ARR, V = A[6] xor A[5]. -/
theorem test_T43_33 :
    endsWith
      (under .emulateStable (start [(0x0, 0x6B), (0x1, 0x7F)] [] (regs 0xFF 0x00 0x00 0xFD 0xF000 0x00)))
      (regs 0x3F 0x00 0x00 0xFD 0xF002 0x40) [] 2 = true := by
  decide +kernel

/-- T43-35: emulate: SBX borrow. -/
theorem test_T43_35 :
    endsWith
      (under .emulateStable (start [(0x0, 0xCB), (0x1, 0x20)] [] (regs 0xFF 0x10 0x00 0xFD 0xF000 0x04)))
      (regs 0xFF 0xF0 0x00 0xFD 0xF002 0x84) [] 2 = true := by
  decide +kernel

/-- T43-36: emulate: USBC = SBC. -/
theorem test_T43_36 :
    endsWith
      (under .emulateStable (start [(0x0, 0xEB), (0x1, 0x01)] [] (regs 0x00 0x00 0x00 0xFD 0xF000 0x01)))
      (regs 0xFF 0x00 0x00 0xFD 0xF002 0x80) [] 2 = true := by
  decide +kernel

/-- T43-37: emulate: LAS abs,Y. -/
theorem test_T43_37 :
    endsWith
      (under .emulateStable (start [(0x0, 0xBB), (0x1, 0x80)] [(0x0, 0x3C)] (regs 0x00 0x00 0x00 0xF0 0xF000 0x04)))
      (regs 0x30 0x30 0x00 0x30 0xF003 0x04) [(0x0, 0x3C)] 4 = true := by
  decide +kernel

/-! ### What the hypotheses of the statements allow: for each, states and operands that meet them -/

/-- Whether an outcome is a next state. -/
def answersNext (o : Result) : Bool :=
  match o with
  | .next _ => true
  | .fault _ => false
  | .refused _ => false

theorem eq_next_of_answersNext {o : Result} (h : answersNext o = true) : o = .next (next o) := by
  cases o
  · rfl
  · cases h
  · cases h

theorem quiet_of_no_rsync {l : List BusCycle} {s : State} (h : writesRsync l = false) : Quiet l s := .inl h

/-- The program counter in the cartridge, some index registers, an empty image and RAM. -/
def blank : State := start [] [] (regs 0x81 0x02 0x03 0xFD 0xF100 0x04)

/-- The same in decimal, with the machine looking at the flag. -/
def inDecimal : State :=
  { blank with
    cpu := { blank.cpu with p := flagsOf 0x0C }
    par := { Params.default with decimalMode := .nmosBcd } }

/-- The same with the policy that faults on an RSYNC write. -/
def rsyncFaults : State := { blank with par := { Params.default with rsyncPolicy := .fault } }

/-- A cartridge of a scheme and size, its banks the start banks. -/
def withScheme (k : Scheme) (z : ImageSize) : State :=
  { blank with map := { blank.map with scheme := k, size := z } }

/-- The beam at a chip-cycle of the line, with the WSYNC bit and the HMOVE blank. -/
def atBeam (h : Fin 228) (wsync blankLeft : Bool) : State :=
  { blank with tia := { blank.tia with beam := ⟨h, 7, wsync, blankLeft⟩ } }

theorem witness_DecodeAndEncodeAgree :
    (∀ i ∈ [Instr.nop, .jam 0xF2, .nopImm 0xE2 0xFF, .ldaAbsX 0xFF 0xFF], i.wellFormed = true) ∧
    decode [0xF2, 0x01] = .ok (.jam 0xF2, [0x01]) ∧ decode [0xBD, 0x34, 0xF2] = .ok (.ldaAbsX 0x34 0xF2, []) ∧
    (∃ e, decode [0xBD, 0x34] = .error e) ∧ [(0x34 : Byte)].length + 1 < lengthOf 0xBD := by
  refine ⟨by decide +kernel, by decide +kernel, by decide +kernel, ⟨.truncated, by decide +kernel⟩, by decide +kernel⟩

theorem witness_StepRunsTheDecodedInstruction :
    let s := start [(0x0, 0xA5), (0x1, 0x80)] [] (regs 0x00 0x00 0x00 0xFD 0xF000 0x04)
    s.fault = none ∧ decode (fetchBytes (takeInputs s)) = .ok (.ldaZp 0x80, [0x00]) := by decide +kernel

theorem witness_FetchReadsRamAndImage :
    let inRam := start [] [(0x7D, 0xAD), (0x7E, 0x80)] (regs 0x00 0x00 0x00 0xFD 0x00FD 0x04)
    let top := start [(0xFFD, 0x4C), (0xFFF, 0xF0)] [] (regs 0x00 0x00 0x00 0xFD 0xFFFD 0x04)
    let half : State := { top with map := { top.map with scheme := .plain2k, size := .k2, rom := [(0x7FD, 0x4C)] } }
    fetchBytes inRam = [0xAD, 0x80, 0x00] ∧ decodeBus (busAddr inRam.cpu.pc) = .ram 0x7D ∧
    decodeBus (busAddr (inRam.cpu.pc + 1)) = .ram 0x7E ∧ decodeBus (busAddr (inRam.cpu.pc + 2)) = .ram 0x7F ∧
    fetchBytes top = [0x4C, 0x00, 0xF0] ∧ top.map.scheme = .plain4k ∧ half.map.scheme = .plain2k ∧
    fetchBytes half = [0x4C, 0x00, 0x00] ∧ decodeBus (busAddr top.cpu.pc) = .cartridge 0xFFD ∧
    decodeBus (busAddr (top.cpu.pc + 1)) = .cartridge 0xFFE ∧
    decodeBus (busAddr (top.cpu.pc + 2)) = .cartridge 0xFFF := by decide +kernel

/-- A JSR in RAM: its third byte is the byte that is there after the pushes (rule R258), here the one its second push
writes. -/
theorem witness_FetchReadsRamAndImage_jsr :
    let inRam := start [] [(0x7C, 0x20), (0x7D, 0x34), (0x7E, 0xF2)] (regs 0x00 0x00 0x00 0xFF 0x01FC 0x04)
    fetchBytes inRam = [0x20, 0x34, 0xFE] ∧ decodeBus (busAddr inRam.cpu.pc) = .ram 0x7C ∧
    decodeBus (busAddr (inRam.cpu.pc + 2)) = .ram 0x7E := by decide +kernel

theorem witness_StepIsTotal :
    blank.fault = none ∧ ({ blank with fault := some ⟨0x02, 0xF100⟩ } : State).fault = some ⟨0x02, 0xF100⟩ := by
  decide +kernel

theorem witness_FaultLeavesThePriorState :
    let s := start [(0x0, 0x02)] [] (regs 0x00 0x00 0x00 0xFD 0xF000 0x04)
    s.fault = none ∧ step s = .next (next (step s)) ∧ (next (step s)).fault = some ⟨0x02, 0xF000⟩ :=
  ⟨by decide +kernel, eq_next_of_answersNext (by decide +kernel), by decide +kernel⟩

theorem witness_FaultLeavesThePriorState_rsync :
    let s : State :=
      { start [(0x0, 0x85), (0x1, 0x03)] [] (regs 0x00 0x00 0x00 0xFD 0xF000 0x04) with par := rsyncFaults.par }
    s.fault = none ∧ step s = .next (next (step s)) ∧ (next (step s)).fault = some ⟨0x85, 0xF000⟩ :=
  ⟨by decide +kernel, eq_next_of_answersNext (by decide +kernel), by decide +kernel⟩

theorem witness_ResetGivesTheStatedState :
    (withScheme .e0 .k8).par.startBank = none ∧ (withScheme .e0 .k8).map.scheme = .e0 ∧
    (withScheme .f8 .k8).par.startBank = none ∧ (withScheme .f8 .k8).map.scheme ≠ .e0 ∧
    ({ blank with par := { Params.default with startBank := some ⟨1, 0, 0⟩ } } : State).par.startBank =
      some ⟨1, 0, 0⟩ := by decide +kernel

theorem witness_InvariantHoldsAtReset :
    let s : State := { withScheme .f8sc .k8 with
      par := { Params.default with startBank := some ⟨1, 0, 0⟩, resetRam := [(127, 0x05)], wave := .other }
      map := { (withScheme .f8sc .k8).map with rom := [(0x1FFF, 0xF0)], ram := [(127, 0xAA)] } }
    s.par.wellFormed s.map.scheme s.map.size = true ∧ s.map.scheme.fits s.map.size = true ∧
    Memory.wf s.map.rom = true ∧ belowBound s.map.size.bytes s.map.rom = true ∧
    Memory.wf s.map.ram = true ∧ belowBound 128 s.map.ram = true := by decide +kernel

theorem witness_InvariantHoldsAtReset_load :
    ∃ s, load Params.default none (List.replicate 2048 0xEA) Inputs.released = .ok s := by
  have h : (match load Params.default none (List.replicate 2048 0xEA) Inputs.released with
      | .ok _ => true
      | .error _ => false) = true := by decide +kernel
  generalize load Params.default none (List.replicate 2048 0xEA) Inputs.released = r at h
  cases r with
  | ok s => exact ⟨s, rfl⟩
  | error e => cases h

theorem witness_StepKeepsCartridgeAndParameters : step blank = .next (next (step blank)) :=
  eq_next_of_answersNext (by decide +kernel)

/-- A state inside a line, with RAM and a bank selected, that meets the invariant and answers a next state. -/
def midLine : State :=
  { withScheme .f8 .k8 with
    cyc := 20
    ram := [(0x00, 0x01), (0x7F, 0xFF)]
    map := { (withScheme .f8 .k8).map with bank := ⟨1, 0, 0⟩, rom := [(0x1FFF, 0xEA)] }
    tia := { (atBeam 60 true false).tia with p0 := { Player.reset with nusiz := 0x37, colup := 0xFE } } }

theorem witness_StepKeepsTheInvariant : Inv midLine ∧ step midLine = .next (next (step midLine)) := by
  refine ⟨?_, eq_next_of_answersNext (by decide +kernel)⟩
  constructor <;> decide +kernel

theorem witness_BusDecodesThirteenBits :
    let bit (n k : Nat) : Bool := (BitVec.ofNat 16 n).getLsbD k
    (BitVec.ofNat 16 0x0080).setWidth 13 = (BitVec.ofNat 16 0xE080).setWidth 13 ∧
    (∀ n ∈ [0x1000, 0xFFFF], bit n 12 = true) ∧
    (∀ n ∈ [0x0000, 0xEF7F], bit n 12 = false ∧ bit n 7 = false) ∧
    (∀ n ∈ [0x0080, 0xEDFF], bit n 12 = false ∧ bit n 7 = true ∧ bit n 9 = false) ∧
    (∀ n ∈ [0x0280, 0xEFFF], bit n 12 = false ∧ bit n 7 = true ∧ bit n 9 = true) := by
  decide +kernel

theorem witness_RamReadsWhatWasWritten :
    decodeBus (busAddr 0x01FF) = .ram 0x7F ∧ decodeBus (busAddr 0x0080) = .ram 0x00 ∧
    Memory.wf [(0x00, 0x01), (0x7F, 0xFF)] = true ∧ 0x80 ≤ (0x80 : Byte).toNat ∧ (0x7F : Byte).toNat < 0x80 := by
  decide +kernel

theorem witness_BusCycleAdvancesThenAccesses : blank.tia.beam.wsync = false := by
  decide +kernel

theorem witness_WsyncHoldsReadsToTheNextLine :
    (∀ n ∈ [0, 1, 75], ∃ h : Fin 228, (atBeam h true false).tia.beam.wsync = true ∧
      (atBeam h true false).tia.beam.hcount.val = 3 * n ∧ n ≤ 75) ∧
    (∀ n ∈ [0x0002, 0x0F42], decodeBus (busAddr (BitVec.ofNat 16 n)) = .tia 0x02) := by
  refine ⟨?_, by decide +kernel⟩
  intro n hn
  have hb : n ≤ 75 := by
    simp only [List.mem_cons, List.not_mem_nil, or_false] at hn
    omega
  exact ⟨⟨3 * n, by omega⟩, rfl, rfl, hb⟩

theorem witness_HotSpotsSelectTheBank :
    (∀ n ∈ [0x000, 0x3FF, 0x400, 0x7FF, 0x800, 0xBFF, 0xC00, 0xFE0, 0xFE7, 0xFE8, 0xFEF, 0xFF0, 0xFF7, 0xFF8, 0xFFF],
      decodeBus (busAddr (BitVec.ofNat 16 (0xF000 + n))) = .cartridge (BitVec.ofNat 12 n)) ∧
    (∀ k ∈ [(Scheme.plain2k, ImageSize.k2), (.plain4k, .k4), (.f8, .k8), (.f6, .k16), (.f4, .k32), (.ef, .k64),
        (.e0, .k8)],
      (withScheme k.1 k.2).map.scheme = k.1 ∧ k.1.fits k.2 = true) := by
  decide +kernel

theorem witness_CartridgeRamAndBusTrigger :
    (∀ n ∈ [0x000, 0x07F, 0x080, 0x0FF, 0x100, 0x7FF, 0x800, 0xFF3, 0xFF4, 0xFF6, 0xFF8, 0xFF9, 0xFFA, 0xFFB, 0xFFC,
        0xFFF],
      decodeBus (busAddr (BitVec.ofNat 16 (0xF000 + n))) = .cartridge (BitVec.ofNat 12 n)) ∧
    (∀ k ∈ [(Scheme.f8sc, ImageSize.k8), (.f6sc, .k16), (.f4sc, .k32)],
      (withScheme k.1 k.2).map.scheme = k.1 ∧ Memory.wf (withScheme k.1 k.2).map.ram = true) ∧
    (∀ z ∈ [ImageSize.k8, .k64], (withScheme .s3f z).map.scheme = .s3f) ∧
    (busAddr 0x003F).toNat ≤ 0x3F ∧ ¬(busAddr 0x0040).toNat ≤ 0x3F := by
  decide +kernel

theorem witness_MapperStaysInsideTheImage :
    (∀ k ∈ [(Scheme.plain2k, ImageSize.k2, Banks.mk 0 0 0), (.plain4k, .k4, ⟨0, 0, 0⟩), (.f8, .k8, ⟨1, 0, 0⟩),
        (.f6, .k16, ⟨3, 0, 0⟩), (.f4, .k32, ⟨7, 0, 0⟩), (.ef, .k64, ⟨15, 0, 0⟩), (.f8sc, .k8, ⟨1, 0, 0⟩),
        (.f6sc, .k16, ⟨3, 0, 0⟩), (.f4sc, .k32, ⟨7, 0, 0⟩), (.e0, .k8, ⟨7, 7, 7⟩), (.s3f, .k8, ⟨3, 0, 0⟩),
        (.s3f, .k64, ⟨31, 0, 0⟩)],
      k.1.fits k.2.1 = true ∧ k.2.2.valid k.1 k.2.1 = true) := by
  decide +kernel

/-- A form of a load in a mode, with operand bytes. -/
def loadForm (m : Mode) (b1 b2 : Byte) : Form := ⟨.lda, m, 0xA5, 3, b1, b2⟩

theorem witness_OperandsByAddressingMode :
    (∀ m ∈ [Mode.zp, .zpx, .zpy, .abs, .abx, .aby, .izx, .izy, .imm], (loadForm m 0xFF 0xFF).mode = m) ∧
    decodeBus (busAddr (BitVec.ofNat 16 ((0xFD + blank.cpu.x.toNat) % 256))) = .ram 0x7F ∧
    decodeBus (busAddr (BitVec.ofNat 16 ((0x7D + blank.cpu.x.toNat + 1) % 256))) = .ram 0x00 ∧
    decodeBus (busAddr (BitVec.ofNat 16 ((0x80 + blank.cpu.x.toNat) % 256))) = .ram 0x02 ∧
    decodeBus (busAddr (BitVec.ofNat 16 ((0x80 + blank.cpu.x.toNat + 1) % 256))) = .ram 0x03 ∧
    decodeBus (busAddr (zext (0xFE : Byte))) = .ram 0x7E ∧
    decodeBus (busAddr (BitVec.ofNat 16 ((0xFE + 1) % 256))) = .ram 0x7F ∧
    decodeBus (busAddr ((loadForm .zpx 0xFD 0x00).effAddr blank)) = .ram 0x7F ∧
    decodeBus (busAddr ((loadForm .abx 0xFF 0xF0).effAddr blank)) = .cartridge 0x101 ∧
    blank.map.scheme = .plain4k := by decide +kernel

theorem witness_LoadResult :
    blank.fault = none ∧ (Instr.ldaAbsX 0xFF 0xF0).form.name = .lda ∧ (Instr.ldxZpY 0x80).form.name = .ldx ∧
    (Instr.ldyImm 0x00).form.name = .ldy := by
  decide +kernel

theorem witness_StoreResult :
    blank.fault = none ∧ (Instr.staAbsX 0xFF 0x00).form.name = .sta ∧ (Instr.stxZpY 0xFD).form.name = .stx ∧
    (Instr.styAbs 0x80 0x00).form.name = .sty ∧
    Quiet ((Instr.staAbsX 0xFF 0x00).form.writeCycles blank.cpu.a blank) blank ∧
    Quiet ((Instr.stxZpY 0xFD).form.writeCycles blank.cpu.x blank) blank ∧
    Quiet ((Instr.styAbs 0x80 0x00).form.writeCycles blank.cpu.y blank) blank :=
  ⟨by decide +kernel, by decide +kernel, by decide +kernel, by decide +kernel, quiet_of_no_rsync (by decide +kernel),
   quiet_of_no_rsync (by decide +kernel), quiet_of_no_rsync (by decide +kernel)⟩

theorem witness_TransferResult : blank.fault = none := by
  decide +kernel

theorem witness_StackResult :
    blank.fault = none ∧
    Quiet [.read blank.cpu.pc, .read (blank.cpu.pc + 1),
      .write (BitVec.ofNat 16 (0x0100 + blank.cpu.sp.toNat)) blank.cpu.a] blank ∧
    Quiet [.read blank.cpu.pc, .read (blank.cpu.pc + 1),
      .write (BitVec.ofNat 16 (0x0100 + blank.cpu.sp.toNat)) (statusByte blank.cpu.p)] blank :=
  ⟨by decide +kernel, quiet_of_no_rsync (by decide +kernel), quiet_of_no_rsync (by decide +kernel)⟩

theorem witness_AddAndSubtractBinary :
    (∀ s ∈ [blank, { inDecimal with par := Params.default }],
      s.fault = none ∧ ¬(s.par.decimalMode = .nmosBcd ∧ s.cpu.p.d = true)) ∧
    (Instr.adcAbsX 0xFF 0xF0).form.name = .adc ∧ (Instr.sbcImm 0x80).form.name = .sbc := by decide +kernel

theorem witness_OverflowIsSignedOverflow :
    blank.fault = none ∧ ¬(blank.par.decimalMode = .nmosBcd ∧ blank.cpu.p.d = true) ∧
    (Instr.adcImm 0x80).form.name = .adc ∧ (Instr.sbcImm 0x7F).form.name = .sbc ∧
    exec (.adcImm 0x80) blank = .next (next (exec (.adcImm 0x80) blank)) ∧
    exec (.sbcImm 0x7F) blank = .next (next (exec (.sbcImm 0x7F) blank)) :=
  ⟨by decide +kernel, by decide +kernel, by decide +kernel, by decide +kernel,
   eq_next_of_answersNext (by decide +kernel),
   eq_next_of_answersNext (by decide +kernel)⟩

theorem witness_AddAndSubtractDecimal :
    inDecimal.fault = none ∧ inDecimal.par.decimalMode = .nmosBcd ∧ inDecimal.cpu.p.d = true ∧
    (Instr.adcImm 0x99).form.name = .adc ∧ (Instr.sbcImm 0x99).form.name = .sbc := by decide +kernel

theorem witness_DecimalModeIsDecimalArithmetic :
    inDecimal.fault = none ∧ inDecimal.par.decimalMode = .nmosBcd ∧ inDecimal.cpu.p.d = true ∧
    exec (.adcImm 0x99) inDecimal = .next (next (exec (.adcImm 0x99) inDecimal)) ∧
    exec (.sbcImm 0x99) inDecimal = .next (next (exec (.sbcImm 0x99) inDecimal)) ∧
    (∀ b ∈ [inDecimal.cpu.a, (Instr.adcImm 0x99).form.operand inDecimal, (Instr.sbcImm 0x99).form.operand inDecimal],
      b.toNat / 16 ≤ 9 ∧ b.toNat % 16 ≤ 9) ∧
    (Instr.adcImm 0x99).form.name = .adc ∧ (Instr.sbcImm 0x99).form.name = .sbc :=
  ⟨by decide +kernel, by decide +kernel, by decide +kernel, eq_next_of_answersNext (by decide +kernel),
   eq_next_of_answersNext (by decide +kernel), by decide +kernel, by decide +kernel, by decide +kernel⟩

theorem witness_LogicResult :
    blank.fault = none ∧ (Instr.andIzX 0x80).form.name = .and ∧ (Instr.oraIzY 0xFF).form.name = .ora ∧
    (Instr.eorAbsY 0xFF 0xF0).form.name = .eor := by
  decide +kernel

theorem witness_CompareAndBitResult :
    blank.fault = none ∧ (Instr.cmpIzY 0xFF).form.name = .cmp ∧ (Instr.cpxAbs 0x80 0x00).form.name = .cpx ∧
    (Instr.cpyZp 0xFF).form.name = .cpy ∧ (Instr.bitZp 0x80).form.name = .bit := by
  decide +kernel

theorem witness_IncrementAndDecrementResult :
    blank.fault = none ∧ (Instr.incAbsX 0xFD 0x00).form.name = .inc ∧ (Instr.decZpX 0xFD).form.name = .dec ∧
    Quiet ((Instr.incAbsX 0xFD 0x00).form.rmwCycles
      ((Instr.incAbsX 0xFD 0x00).form.rmwOperand blank + 1) blank) blank ∧
    Quiet ((Instr.decZpX 0xFD).form.rmwCycles ((Instr.decZpX 0xFD).form.rmwOperand blank - 1) blank) blank :=
  ⟨by decide +kernel, by decide +kernel, by decide +kernel, quiet_of_no_rsync (by decide +kernel),
   quiet_of_no_rsync (by decide +kernel)⟩

theorem witness_ShiftResult :
    blank.fault = none ∧
    (∀ r ∈ [(Instr.aslAcc, Mnemonic.asl), (.lsrAcc, .lsr), (.rolAcc, .rol), (.rorAcc, .ror)],
      r.1.form.name = r.2 ∧ r.1.form.mode = .acc) ∧
    (∀ r ∈ [(Instr.aslAbsX 0xFD 0x00, Mnemonic.asl), (.lsrZpX 0xFD, .lsr), (.rolAbs 0x80 0x00, .rol),
        (.rorZp 0xFF, .ror)],
      r.1.form.name = r.2 ∧ r.1.form.mode ≠ .acc ∧
      writesRsync (r.1.form.rmwCycles (r.2.modify (r.1.form.rmwOperand blank) blank.cpu.p) blank) = false) := by
  decide +kernel

theorem witness_BranchResult :
    let s (p : Byte) : State := { blank with cpu := { blank.cpu with p := flagsOf p } }
    (s 0xC3).fault = none ∧ (!(s 0x00).cpu.p.c) = true ∧ (s 0xC3).cpu.p.c = true ∧ (s 0xC3).cpu.p.z = true ∧
    (s 0xC3).cpu.p.n = true ∧ (s 0xC3).cpu.p.v = true ∧ (s 0x00).cpu.p.z = false ∧ (s 0x00).cpu.p.n = false ∧
    (s 0x00).cpu.p.v = false ∧
    hiByte (blank.cpu.pc + BitVec.ofInt 16 (2 + (0x7F : Byte).toInt)) = hiByte (blank.cpu.pc + 2) ∧
    hiByte (blank.cpu.pc + BitVec.ofInt 16 (2 + (0x80 : Byte).toInt)) ≠ hiByte (blank.cpu.pc + 2) := by
  decide +kernel

theorem witness_FlagInstructionResult : blank.fault = none := by
  decide +kernel

/-- The two stack writes of JSR are to RAM here, so neither is to RSYNC. -/
theorem witness_JumpCallAndReturnResult :
    blank.fault = none ∧
    Quiet [.read blank.cpu.pc, .read (blank.cpu.pc + 1), .read (word 0x01 blank.cpu.sp),
      .write (word 0x01 blank.cpu.sp) (hiByte (blank.cpu.pc + 2)),
      .write (word 0x01 (blank.cpu.sp - 1)) (loByte (blank.cpu.pc + 2)), .read (blank.cpu.pc + 2)] blank :=
  ⟨by decide +kernel, quiet_of_no_rsync (by decide +kernel)⟩

theorem witness_BreakAndReturnResult :
    blank.fault = none ∧
    Quiet [.read blank.cpu.pc, .read (blank.cpu.pc + 1), .write (word 0x01 blank.cpu.sp) (hiByte (blank.cpu.pc + 2)),
      .write (word 0x01 (blank.cpu.sp - 1)) (loByte (blank.cpu.pc + 2)),
      .write (word 0x01 (blank.cpu.sp - 2)) (statusByte blank.cpu.p)] blank :=
  ⟨by decide +kernel, quiet_of_no_rsync (by decide +kernel)⟩

theorem witness_ReturnUndoesCallAndTrap :
    let s (sp : Byte) : State := { blank with cpu := { blank.cpu with sp := sp } }
    (s 0x81).fault = none ∧ Memory.wf (s 0x81).ram = true ∧ 0x81 ≤ (s 0x81).cpu.sp.toNat ∧
    exec (.jsr 0x00 0xF2) (s 0x81) = .next (next (exec (.jsr 0x00 0xF2) (s 0x81))) ∧
    (next (exec (.jsr 0x00 0xF2) (s 0x81))).fault = none ∧
    (s 0x82).fault = none ∧ Memory.wf (s 0x82).ram = true ∧ 0x82 ≤ (s 0x82).cpu.sp.toNat ∧
    exec .brk (s 0x82) = .next (next (exec .brk (s 0x82))) ∧ (next (exec .brk (s 0x82))).fault = none :=
  ⟨by decide +kernel, by decide +kernel, by decide +kernel, eq_next_of_answersNext (by decide +kernel),
   by decide +kernel, by decide +kernel,
   by decide +kernel, by decide +kernel, eq_next_of_answersNext (by decide +kernel), by decide +kernel⟩

theorem witness_UnsupportedOpcodeFaults :
    (Instr.jam 0x02).unsupported blank = true ∧ (Instr.laxZp 0x80).unsupported blank = true ∧
    (Instr.shx 0x00 0x00).unsupported (under .emulateStable blank) = true ∧
    (Instr.arr 0x00).unsupported (under .emulateStable inDecimal) = true ∧
    (Instr.arr 0x00).unsupported (under .emulateStable blank) = false ∧
    (Instr.jam 0x02).unsupported (under .nop blank) = false := by decide +kernel

theorem witness_UndocumentedOpcodeAsNop :
    let s := under .nop blank
    s.fault = none ∧ s.par.illegalPolicy = .nop ∧ (Instr.jam 0x02).form.name.documented = false ∧
    (Instr.sloIzX 0xFF).form.name.documented = false ∧ (Instr.nopImp 0x1A).form.name.documented = false := by
  decide +kernel

theorem witness_EmulatedLoadsStoresAndImmediates :
    let s := under .emulateStable blank
    s.fault = none ∧ s.par.illegalPolicy = .emulateStable ∧
    (∀ r ∈ [(Instr.laxIzY 0xFF, Mnemonic.lax), (.las 0xFF 0xF0, .las), (.saxZpY 0xFD, .sax),
        (.nopAbsX 0x1C 0xFF 0xF0, .nopUndoc), (.nopImp 0x1A, .nopUndoc), (.ancImm 0x2B 0x80, .anc), (.alr 0x01, .alr),
        (.arr 0x60, .arr), (.sbx 0x03, .sbx), (.usbc 0x01, .usbc)], r.1.form.name = r.2) ∧
    writesRsync ((Instr.saxZpY 0xFD).form.writeCycles (s.cpu.a &&& s.cpu.x) s) = false ∧
    (Instr.nopAbsX 0x1C 0xFF 0xF0).form.mode ≠ .imp ∧ (Instr.nopImp 0x1A).form.mode = .imp ∧
    ¬(s.par.decimalMode = .nmosBcd ∧ s.cpu.p.d = true) := by decide +kernel

theorem witness_EmulatedReadModifyWrites :
    let s := under .emulateStable blank
    s.fault = none ∧ s.par.illegalPolicy = .emulateStable ∧
    (∀ r ∈ [(Instr.sloIzX 0x80, Mnemonic.slo), (.rlaAbs 0x80 0x00, .rla), (.sreAbsY 0xFD 0x00, .sre),
        (.rraAbsX 0xFD 0x00, .rra), (.dcpZpX 0xFD, .dcp), (.iscZp 0xFF, .isc)],
      r.1.form.name = r.2 ∧
      writesRsync (r.1.form.rmwCycles (r.2.modify (r.1.form.rmwOperand s) s.cpu.p) s) = false) := by decide +kernel

theorem witness_RsyncWriteFaults :
    rsyncFaults.fault = none ∧ rsyncFaults.par.rsyncPolicy = .fault ∧
    (∀ i ∈ [Instr.staZp 0x03, .incZp 0x03, .stxAbs 0x43 0x00], writesRsync (i.cycleList rsyncFaults) = true) := by
  decide +kernel

theorem witness_InstructionsMakeTheirCycleLists :
    blank.fault = none ∧
    (∀ i ∈ [Instr.ldaAbsX 0xFF 0xF0, .incZp 0x80, .jsr 0x00 0xF2, .brk, .rti],
      i.unsupported blank = false ∧ writesRsync (i.cycleList blank) = false) ∧
    (∀ i ∈ [Instr.jam 0x02, .sloIzX 0x80],
      i.unsupported (under .nop blank) = false ∧ writesRsync (i.cycleList (under .nop blank)) = false) := by
  decide +kernel

theorem witness_DocumentedCycleCost :
    blank.fault = none ∧ (Instr.ldaAbsX 0xFF 0xF0).form.name.documented = true ∧
    exec (.ldaAbsX 0xFF 0xF0) blank = .next (next (exec (.ldaAbsX 0xFF 0xF0) blank)) ∧
    (next (exec (.ldaAbsX 0xFF 0xF0) blank)).fault = none ∧ blank.tia.beam.wsync = false ∧
    (∀ c ∈ (Instr.ldaAbsX 0xFF 0xF0).cycleList blank, c ≠ .write c.addr 0x00) :=
  ⟨by decide +kernel, by decide +kernel, eq_next_of_answersNext (by decide +kernel), by decide +kernel,
   by decide +kernel, by decide +kernel⟩

theorem witness_OnlyTheNamedRegistersAndFlagsChange :
    (Instr.staZp 0x80).form.name.documented = true ∧
    exec (.staZp 0x80) blank = .next (next (exec (.staZp 0x80) blank)) ∧
    (Instr.aslZp 0x80).form.name.documented = true ∧ (Instr.aslZp 0x80).form.mode ≠ .acc ∧
    exec (.aslZp 0x80) blank = .next (next (exec (.aslZp 0x80) blank)) :=
  ⟨by decide +kernel, eq_next_of_answersNext (by decide +kernel), by decide +kernel, by decide +kernel,
   eq_next_of_answersNext (by decide +kernel)⟩

/-- INC of a RAM byte writes it twice; the second write is the last cycle of its list. -/
theorem witness_MemoryChangesExactlyWhereWritten :
    Memory.wf blank.ram = true ∧ Memory.wf blank.map.ram = true ∧ blank.fault = none ∧
    exec (.incZp 0xFF) blank = .next (next (exec (.incZp 0xFF) blank)) ∧
    (next (exec (.incZp 0xFF) blank)).fault = none ∧
    (Instr.incZp 0xFF).cycleList blank =
      [.read 0xF100, .read 0xF101, .read 0x00FF, .write 0x00FF 0x00] ++ .write 0x00FF 0x01 :: [] ∧
    decodeBus (busAddr 0x00FF) = .ram 0x7F ∧
    (∀ c ∈ (Instr.ldaZp 0xFF).cycleList (withScheme .f8sc .k8), decodeBus (busAddr c.addr) ≠ .cartridge 0x7F) ∧
    hasCartRam (withScheme .f8sc .k8).map.scheme = true :=
  ⟨by decide +kernel, by decide +kernel, by decide +kernel, eq_next_of_answersNext (by decide +kernel),
   by decide +kernel,
   by decide +kernel, by decide +kernel, by decide +kernel, by decide +kernel⟩

/-- LDA `0xF200` makes four reads, none of them at a hot-spot of scheme `F8`. -/
theorem witness_DevicesChangeOnlyWhereAccessed :
    let s := withScheme .f8 .k8
    s.fault = none ∧ exec (.ldaAbs 0x00 0xF2) s = .next (next (exec (.ldaAbs 0x00 0xF2) s)) ∧
    (Instr.ldaAbs 0x00 0xF2).cycleList s = [.read 0xF100, .read 0xF101, .read 0xF102, .read 0xF200] ∧
    (∀ n ∈ [0x100, 0x101, 0x102, 0x200], hotSpot .f8 (BitVec.ofNat 12 n) s.map.bank = s.map.bank) :=
  ⟨by decide +kernel, eq_next_of_answersNext (by decide +kernel), by decide +kernel, by decide +kernel⟩

theorem witness_HiddenStateIsNotObserved :
    let s' : State :=
      { blank with
        cyc := 76
        out := [.endOfFrame]
        tia := { blank.tia with
          beam := { blank.tia.beam with line := 9 }
          pf := { blank.tia.pf with colubk := 0x0E } } }
    observable blank = observable s' ∧ blank ≠ s' ∧ step blank = .next (next (step blank)) :=
  ⟨by decide +kernel, by decide +kernel, eq_next_of_answersNext (by decide +kernel)⟩

theorem witness_RiotReadResult :
    blank.tia.beam.wsync = false ∧
    (∀ n ∈ [0x00, 0x02, 0x04, 0x05, 0x1F],
      decodeBus (busAddr (BitVec.ofNat 16 (0x0280 + n))) = .riot (BitVec.ofNat 5 n)) ∧
    (0x04 : BitVec 5).getLsbD 2 = true ∧ (0x04 : BitVec 5).getLsbD 0 = false ∧
    (0x1F : BitVec 5).getLsbD 2 = true ∧ (0x1F : BitVec 5).getLsbD 0 = true ∧
    (0x00 : BitVec 5).getLsbD 2 = false ∧ (0x00 : BitVec 5).getLsbD 1 = false ∧
    (0x02 : BitVec 5).getLsbD 1 = true ∧ (0x02 : BitVec 5).getLsbD 0 = false := by
  decide +kernel

theorem witness_RiotWriteResult :
    let sel (n : Nat) : BitVec 5 := BitVec.ofNat 5 n
    (∀ n ∈ [0x00, 0x01, 0x03, 0x04, 0x10, 0x14, 0x15, 0x16, 0x17, 0x1F],
      decodeBus (busAddr (BitVec.ofNat 16 (0x0280 + n))) = .riot (sel n)) ∧
    (∀ n ∈ [0x14, 0x15, 0x16, 0x17, 0x1F], (sel n).getLsbD 4 = true ∧ (sel n).getLsbD 2 = true) ∧
    (sel 0x14).toNat % 4 = 0 ∧ (sel 0x15).toNat % 4 = 1 ∧ (sel 0x16).toNat % 4 = 2 ∧ (sel 0x1F).toNat % 4 = 3 ∧
    (∀ n ∈ [0x04, 0x10], ¬((sel n).getLsbD 4 = true ∧ (sel n).getLsbD 2 = true)) ∧
    (∀ n ∈ [0x01, 0x03], (sel n).getLsbD 2 = false ∧ (sel n).getLsbD 0 = true) ∧
    blank.tia.beam.wsync = false := by
  decide +kernel

theorem witness_TimerCourseAfterWrite :
    (∀ p ∈ [Prescale.by1, .by8, .by64, .by1024], ∀ v ∈ [(0x01 : Byte), 0xFF], 1 ≤ v.toNat * cyclesOf p) := by
  decide +kernel

theorem witness_TiaReadResult :
    blank.tia.beam.wsync = false ∧
    (∀ n : Fin 16, decodeBus (busAddr (BitVec.ofNat 16 (0x30 + n.val))) = .tia (BitVec.ofNat 6 (0x30 + n.val)) ∧
      (BitVec.ofNat 6 (0x30 + n.val)).toNat % 16 = n.val) := by
  decide +kernel

theorem witness_TiaRegisterWriteResult :
    (∀ n : Fin 64, decodeBus (busAddr (BitVec.ofNat 16 n.val)) = .tia (BitVec.ofNat 6 n.val)) ∧
    0x2D ≤ (0x2D : BitVec 6).toNat := by
  decide +kernel

theorem witness_PlayerGraphicsAreDelayed :
    decodeBus (busAddr 0x001B) = .tia 0x1B ∧ decodeBus (busAddr 0x005C) = .tia 0x1C ∧
    ({ Player.reset with vdel := true } : Player).vdel = true ∧ Player.reset.vdel = false := by
  decide +kernel

theorem witness_StrobesPlaceTheObjects :
    (∀ reg ∈ [(0x10 : BitVec 6), 0x11, 0x12, 0x13, 0x14, 0x28, 0x29, 0x2A, 0x2B],
      decodeBus (busAddr (reg.setWidth 16)) = .tia reg) := by
  decide +kernel

theorem witness_VerticalSyncBlankAndInputLatches :
    ({ blank.tia.sync with latchEn := true } : Sync).latchEn = true ∧ blank.tia.sync.latchEn = false ∧
    decodeBus (busAddr 0x0000) = .tia 0x00 ∧ decodeBus (busAddr 0x0001) = .tia 0x01 ∧
    (runTia blank.par blank.inp 3 blank.tia).sync.vsync = false ∧ (0x02 : Byte).getLsbD 1 = true ∧
    (0x01 : Byte).getLsbD 1 = false ∧ (0x40 : Byte).getLsbD 6 = true ∧ (0x80 : Byte).getLsbD 6 = false := by
  decide +kernel

theorem witness_CollisionsOnlyWidenUntilCleared :
    decodeBus (busAddr 0x002C) = .tia 0x2C ∧ blank.fault = none ∧
    exec .inx blank = .next (next (exec .inx blank)) ∧
    Instr.inx.cycleList blank = [.read 0xF100, .read 0xF101] ∧
    (∀ r ∈ [((68 : Fin 228), false), (75, false), (76, true), (227, true)],
      let t := (atBeam r.1 false r.2).tia
      68 ≤ t.beam.hcount.val ∧ ¬(t.beam.hmoveBlank = true ∧ t.beam.hcount.val < 76) ∧ t.sync.vblank = false) ∧
    blank.par.collideInVblank = true :=
  ⟨by decide +kernel, by decide +kernel, eq_next_of_answersNext (by decide +kernel), by decide +kernel,
   by decide +kernel, by decide +kernel⟩

theorem witness_CollisionsOnlyWidenUntilCleared_blank :
    (atBeam 67 false false).tia.beam.hcount.val < 68 ∧
    (∀ h ∈ [(68 : Fin 228), 75],
      (atBeam h false true).tia.beam.hmoveBlank = true ∧ (atBeam h false true).tia.beam.hcount.val < 76) ∧
    ({ blank.tia.sync with vblank := true } : Sync).vblank = true ∧
    ({ Params.default with collideInVblank := false } : Params).collideInVblank = false := by decide +kernel

theorem witness_PlayfieldAndObjectsCoverTheirColumns :
    (∀ x ∈ [0, 79, 80, 159], x < 160) ∧ ({ blank.tia.bl with pos := 159 } : Ball).pos = 159 := by
  decide +kernel

theorem witness_ColourFollowsPriority :
    let none' : Active := ⟨false, false, false, false, false, false⟩
    let t (c : BitVec 6) : Tia := { blank.tia with pf := { blank.tia.pf with ctrlpf := c } }
    (t 0x04).pf.ctrlpf.getLsbD 2 = true ∧ (t 0x02).pf.ctrlpf.getLsbD 2 = false ∧ (t 0x02).pf.ctrlpf.getLsbD 1 = true ∧
    none'.pf = false ∧ none'.p0 = false ∧ none'.p1 = false ∧ ({ none' with pf := true } : Active).pf = true ∧
    ({ none' with p0 := true } : Active).p0 = true ∧ ({ none' with m1 := true } : Active).m1 = true := by
  decide +kernel

theorem witness_AudioSampleIsVolumeWeighted :
    Channel.reset waveReset = { Channel.reset waveReset with audc := 0x0 } ∧
    ({ Channel.reset waveReset with audc := 0xB } : Channel).audc = 0xB ∧
    (Channel.reset waveReset).adiv = (Channel.reset waveReset).audf ∧
    ({ Channel.reset waveReset with audf := 0x1F } : Channel).adiv ≠
      ({ Channel.reset waveReset with audf := 0x1F } : Channel).audf := by
  decide +kernel

theorem witness_DefaultWaveformByType :
    let acts (n d3 : Nat) : Prop := n ∉ [0x0, 0xB] ∧ (12 ≤ n → d3 = 2)
    let opened (n : Nat) (p5 : BitVec 5) : Prop :=
      n % 4 < 2 ∨ (n % 4 = 2 ∧ (p5 = 0x1F ∨ p5 = 0x01)) ∨ (n % 4 = 3 ∧ p5.getLsbD 4 = true)
    (∀ n ∈ [1, 2, 3, 8, 9, 10, 4, 5, 6, 7], acts n 0) ∧ (∀ n ∈ [12, 13, 14, 15], acts n 2 ∧ ¬acts n 1) ∧
    (∀ n ∈ [2, 6, 10, 14], opened n 0x1F ∧ ¬opened n 0x1E) ∧ (∀ n ∈ [3, 7, 15], opened n 0x10 ∧ ¬opened n 0x0F) ∧
    (∀ n ∈ [1, 4, 5, 8, 9, 12, 13], opened n 0x00) := by decide

/-- The outputs of so many audio clocks with `audf = 0`, from the reset state, as the bits of a number. -/
def outputs (audc : Nat) : Nat → WaveState → Nat → Nat
  | 0, _, bits => bits
  | n + 1, w, bits =>
    let w := waveStep (BitVec.ofNat 4 audc) w
    outputs audc n w (2 * bits + (waveOut w).toNat)

/-- T63-3, types 0 to 7. -/
theorem test_T63_3_low :
    ([(0x0, 0b111111111111111111111111111111111111111111111111),
      (0x1, 0b111000100110101111000100110101111000100110101111),
      (0x2, 0b111111111111111111111111111111111111111111111111),
      (0x3, 0b111000000010001111111000110111111000000110011110),
      (0x4, 0b101010101010101010101010101010101010101010101010),
      (0x5, 0b101010101010101010101010101010101010101010101010),
      (0x6, 0b111111111111111111111111111111000000000000000000),
      (0x7, 0b101000010010110011111000110111010100001001011001)] : List (Nat × Nat)).all
      (fun r => outputs r.1 48 waveReset 0 == r.2) = true := by
  decide +kernel

/-- T63-3, types 8 to 15. -/
theorem test_T63_3_high :
    ([(0x8, 0b111111110000011110111110001011100110010000010010),
      (0x9, 0b111100011011101010000100101100111110001101110101),
      (0xA, 0b111111111111111110000000000000111111111111111111),
      (0xB, 0b111111111111111111111111111111111111111111111111),
      (0xC, 0b111110001110001110001110001110001110001110001110),
      (0xD, 0b111110001110001110001110001110001110001110001110),
      (0xE, 0b111111111111111111111111111111111111111111111111),
      (0xF, 0b111110001110000000000001110000001110001111110000)] : List (Nat × Nat)).all
      (fun r => outputs r.1 48 waveReset 0 == r.2) = true := by
  decide +kernel

end Sys2Proof.Tests
end

section
/-!
PROOF. A bus cycle by the target of its address: what a read returns, what a read and a write leave in each device
(rules R10, R61, R62).
-/

namespace Sys2Proof.Machine

/-- The value of a read, by the target of its address: every device is seen as it is after the hold and the CPU
cycle (rules R62, R66 to R70). -/
theorem rd_value (a : Word) (s : State) :
    (rd a s).1 = match decodeBus (busAddr a) with
      | .cartridge off => (mapRead off s.dbus s.map).1
      | .tia reg => tiaRead s.inp s.dbus (runTia s.par s.inp 3 (hold s).tia) reg
      | .ram k => readCell s.ram k.toNat
      | .riot sel => (riotRead sel s.inp (riotTick (hold s).riot)).1 := by
  have h : (rd a s).1 = (routeRead (busAddr a) (advanceChips (hold s))).1 := rfl
  rw [h]
  cases hd : decodeBus (busAddr a) <;> simp [routeRead, hd, advanceChips_runTia]

/-- The TIA after a read: three chip-cycles after the hold (rule R62). -/
theorem rd_runTia (a : Word) (s : State) : (rd a s).2.tia = runTia s.par s.inp 3 (hold s).tia := by
  rw [rd_tia, advanceChips_runTia, hold_par, hold_inp]

/-- The TIA after a write elsewhere: three chip-cycles (rule R62). -/
theorem wr_runTia_elsewhere {a : Word} (v : Byte) (s : State) (h : ∀ reg, decodeBus (busAddr a) ≠ .tia reg) :
    (wr a v s).tia = runTia s.par s.inp 3 s.tia := by
  rw [wr_tia_elsewhere v s h, advanceChips_runTia]

/-- The addresses of the cartridge window lie above those that scheme `3F` snoops (rules R65, R118). -/
theorem le_toNat_of_cartridge {a : BitVec 13} {off : BitVec 12} (h : decodeBus a = .cartridge off) :
    4096 ≤ a.toNat := by
  by_cases hb : a.getLsbD 12 = true
  · exact Nat.ge_two_pow_of_testBit hb
  · unfold decodeBus at h
    rw [if_neg hb] at h
    split at h
    · cases h
    · split at h <;> cases h

/-- Snooping changes nothing where the access is to the cartridge window (rules R69, R118). -/
theorem snoop_cartridge {a : BitVec 13} {off : BitVec 12} (h : decodeBus a = .cartridge off) (kind : Access) (v : Byte)
    (m : Mapper) : snoop kind a v m = m := by
  have ha := le_toNat_of_cartridge h
  unfold snoop
  split
  · exact if_neg (by omega)
  · rfl

/-- The mapper after a write to the cartridge window. -/
theorem wr_map_cartridge {a : Word} {off : BitVec 12} (h : decodeBus (busAddr a) = .cartridge off) (v : Byte)
    (s : State) : (wr a v s).map = mapWrite off v s.map := by
  rw [wr_map, h]
  simp only [snoop_cartridge h]

/-- Settles O13: one CPU cycle of time, then the access to the device that the address selects. -/
theorem busCycleAdvancesThenAccesses : Obligations.BusCycleAdvancesThenAccesses := by
  unfold Obligations.BusCycleAdvancesThenAccesses
  intro s addr
  refine ⟨hold_of_free, ⟨rd_cyc addr s, rd_runTia addr s, rfl, rd_ram addr s, ?_⟩,
    fun v => ⟨wr_cyc addr v s, wr_dbus addr v s, ?_⟩⟩
  · have hv := rd_value addr s
    have hm := rd_map addr s
    have hr := rd_riot addr s
    rw [advanceChips_riot] at hr
    cases hd : decodeBus (busAddr addr) with
    | cartridge off | tia reg | ram k | riot sel => rw [hd] at hv hm hr; exact ⟨hv, hm, hr⟩
  · have hr := wr_riot addr v s
    have hm := wr_ram addr v s
    cases hd : decodeBus (busAddr addr) with
    | cartridge off =>
      rw [hd] at hr hm
      exact ⟨wr_map_cartridge hd v s, wr_runTia_elsewhere v s (by simp [hd]), hr, hm⟩
    | tia reg =>
      rw [hd] at hr hm
      exact ⟨wr_tia v s hd, hr, hm⟩
    | ram k =>
      rw [hd] at hr hm
      exact ⟨hm, wr_runTia_elsewhere v s (by simp [hd]), hr⟩
    | riot sel =>
      rw [hd] at hr hm
      exact ⟨hr, wr_runTia_elsewhere v s (by simp [hd]), hm⟩
end Sys2Proof.Machine
end

section
/-!
PROOF. Every instruction makes its list of bus cycles: it either faults, or it leaves the state its cycle list leads
to, with some registers replaced (rules R145 to R158, R280 to R284).
-/

namespace Sys2Proof.Machine

/-! ### The operations as functions of the mnemonic -/

/-- What a mnemonic of class read or rmw does with the byte it has read or written, in the state after its cycles
(rules R171 to R173, R201 to R210, R283). -/
def Mnemonic.operandOp : Mnemonic → Byte × State → State
  | .lda => loadA
  | .ldx => loadX
  | .ldy => loadY
  | .adc | .rra => Machine.adc
  | .sbc | .usbc | .isc => Machine.sbc
  | .and | .rla => andA
  | .ora | .slo => oraA
  | .eor | .sre => eorA
  | .cmp | .dcp => cmpA
  | .cpx => cmpX
  | .cpy => cmpY
  | .bit => testBits
  | .lax => loadAX
  | .las => loadASX
  | .anc => ancA
  | .alr => alrA
  | .arr => arrA
  | .sbx => sbxX
  | _ => discard

/-- It replaces registers and nothing else. -/
theorem operandOp_setCpu (n : Mnemonic) (r : Byte × State) : ∃ c, n.operandOp r = r.2.setCpu c := by
  cases n <;> exact ⟨_, rfl⟩

/-- What a mnemonic of class rmw makes of the byte in memory and of the flags (rules R211, R212, R217 to R220, R283). -/
def Mnemonic.alu : Mnemonic → Byte → Flags → Alu
  | .asl | .slo => shiftLeft
  | .lsr | .sre => shiftRight
  | .rol | .rla => rotateLeft
  | .ror | .rra => rotateRight
  | .inc => increment
  | .dec => decrement
  | .isc => incrementOnly
  | .dcp => decrementOnly
  | _ => fun _ p => ⟨0x00, p⟩

theorem bitAt_zero (b : Bool) : bitAt 0 b = (BitVec.ofBool b).setWidth 8 := BitVec.shiftLeft_zero _

/-- Its value is the result byte that the cycle lists name. -/
theorem alu_value (n : Mnemonic) (m : Byte) (p : Flags) : (n.alu m p).value = n.modify m p := by
  cases n
  case rol | rla => simp only [Mnemonic.alu, rotateLeft, bitAt_zero, Mnemonic.modify]
  all_goals rfl

/-- The byte that a mnemonic of class write stores (rules R174 to R176, R283). -/
def Mnemonic.stored (n : Mnemonic) (c : Cpu) : Byte :=
  match n with
  | .stx => c.x
  | .sty => c.y
  | .sax => c.a &&& c.x
  | _ => c.a

/-! ### The states that an instruction's own cycles lead to -/

/-- The state `t` is the one that the row's own cycles lead to from `s`, with some registers replaced. -/
def Form.Makes (f : Form) (s t : State) : Prop := ∃ c, t = (busCycles (f.ownCycles s) s).setCpu c

section classes

variable {f : Form} {s : State}

/-- Class read: the operand's cycles, then the mnemonic's operation on the operand. -/
theorem makes_read {r : Byte × State} {c : Cpu} (hl : f.ownCycles s = f.readCycles s)
    (hr : r = (f.operand s, (busCycles (f.readCycles s) s).setCpu c)) : f.Makes s (f.name.operandOp r) := by
  obtain ⟨d, hd⟩ := operandOp_setCpu f.name r
  exact ⟨d, by rw [hd, hr, hl, State.setCpu_setCpu]⟩

/-- Class write: the address's cycles, then the write of the mnemonic's register. -/
theorem makes_write {e : Word × State} (hl : f.ownCycles s = f.writeCycles (f.name.stored s.cpu) s)
    (he : e = (f.effAddr s, (busCycles (f.addressCycles s) s).setCpu { s.cpu with pc := f.nextPc s })) :
    f.Makes s (storeAt (f.name.stored s.cpu) e) :=
  ⟨_, by rw [hl]; exact storeAt_cycles f s _ he⟩

/-- Class rmw: the address's cycles, the read and the two writes; the undocumented ones go on with the result. -/
theorem makes_rmw {e : Word × State} (hl : f.ownCycles s = f.rmwCycles (f.rmwResult s) s)
    (he : e = (f.effAddr s, (busCycles (f.addressCycles s) s).setCpu { s.cpu with pc := f.nextPc s })) :
    f.Makes s (f.name.operandOp (modifyAt f.name.alu e)) := by
  obtain ⟨d, hd⟩ := operandOp_setCpu f.name (modifyAt f.name.alu e)
  exact ⟨d, by rw [hd, modifyAt_cycles f s _ he, hl, alu_value, Form.rmwResult, State.setCpu_setCpu]⟩

theorem makes_push {v : Byte} (hl : f.ownCycles s = impliedList s ++ [.write (stackByte s.cpu.sp) v]) :
    f.Makes s (push v (impliedCycles s)) :=
  ⟨_, by rw [hl, impliedCycles_cycles, push_cycles]⟩

end classes

theorem makes_pla (s : State) : Instr.pla.form.Makes s (loadA (pull (stackIdle (impliedCycles s)))) := by
  obtain ⟨c, hc⟩ := operandOp_setCpu .lda (pull (stackIdle (impliedCycles s)))
  refine ⟨c, hc.trans ?_⟩
  rw [impliedCycles_cycles, stackIdle_cycles, pull_cycles, State.setCpu_setCpu, List.append_assoc]
  rfl

theorem makes_jsr (lo hi : Byte) (s : State) :
    (Instr.jsr lo hi).form.Makes s ((idleCycle (callCycles (fetchCycles 2 s))).setPc (word hi lo)) := by
  rw [fetchCycles_cycles, callCycles_cycles, idleCycle_cycles, State.setPc_eq, State.setCpu_setCpu, List.append_assoc]
  exact ⟨_, rfl⟩

/-! ### From the own cycles to the cycle list under the policy -/

/-- The instruction faults where the machine does not support it; else its meaning ends in the state that its cycle
list leads to, with some registers replaced. -/
def RunsItsCycles (i : Instr) (s : State) : Prop :=
  (i.unsupported s = true ∧ exec i s = .next (raise i.form.op s)) ∨
  (i.unsupported s = false ∧
    ∃ c, exec i s = complete i.form.op s ((busCycles (i.cycleList s) s).setCpu c))

section policies

variable {i : Instr} {s t : State} {stable : State → Option State}

/-- A documented instruction makes its own cycles under every policy. -/
theorem runs_documented (hm : i.form.Makes s t) (hd : i.form.name.documented = true)
    (he : exec i s = complete i.form.op s t) : RunsItsCycles i s := by
  obtain ⟨c, rfl⟩ := hm
  exact .inr ⟨by simp [Instr.unsupported, hd], c, by simpa [Instr.cycleList, Instr.unsupported, hd] using he⟩

/-- An undocumented instruction, by the policy (rules R280, R282, R283). -/
theorem runs_undocumented (hd : i.form.name.documented = false)
    (he : exec i s = undocumented i.form.op i.form.length i.form.cycles stable s)
    (hs : (i.form.name.unstable s = true ∧ stable s = none) ∨
      (i.form.name.unstable s = false ∧ ∃ t, stable s = some t ∧ i.form.Makes s t)) : RunsItsCycles i s := by
  cases hp : s.par.illegalPolicy with
  | fault => exact .inl ⟨by simp [Instr.unsupported, hd, hp], by rw [he, undocumented, hp]⟩
  | nop =>
    refine .inr ⟨by simp [Instr.unsupported, hd, hp], { s.cpu with pc := i.form.nextPc s }, ?_⟩
    rw [he, undocumented, hp]
    simp only [nopPolicy_cycles]
    simp [Instr.cycleList, Instr.unsupported, hd, hp]
  | emulateStable =>
    rcases hs with ⟨hu, hn⟩ | ⟨hu, t, hn, c, rfl⟩
    · exact .inl ⟨by simp [Instr.unsupported, hd, hp, hu], by simp only [he, undocumented, hp, hn]⟩
    · refine .inr ⟨by simp [Instr.unsupported, hd, hp, hu], c, ?_⟩
      simp only [he, undocumented, hp, hn]
      simp [Instr.cycleList, Instr.unsupported, hd, hp, hu]

/-- An implied instruction works on the registers alone (rule R147). -/
theorem runs_implied {c : Cpu} (hl : i.form.ownCycles s = impliedList s) (hd : i.form.name.documented = true)
    (he : exec i s = complete i.form.op s ((impliedCycles s).setCpu c)) : RunsItsCycles i s :=
  runs_documented ⟨c, by rw [impliedCycles_cycles, hl, State.setCpu_setCpu]⟩ hd he

/-- An undocumented instruction that has a meaning `g` in every state.  (In a use, `he` is proved `by rfl`, so that it
is compared after `hm` has said what `g` is.) -/
theorem runs_stable {g : State → State} (hm : i.form.Makes s (g s)) (hd : i.form.name.documented = false)
    (hu : i.form.name.unstable s = false)
    (he : exec i s = undocumented i.form.op i.form.length i.form.cycles (fun u => some (g u)) s) :
    RunsItsCycles i s :=
  runs_undocumented hd he (.inr ⟨hu, _, rfl, hm⟩)

/-- An undocumented instruction that has a meaning in no state. -/
theorem runs_unstable (hd : i.form.name.documented = false) (hu : i.form.name.unstable s = true)
    (he : exec i s = undocumented i.form.op i.form.length i.form.cycles (fun _ => none) s) : RunsItsCycles i s :=
  runs_undocumented hd he (.inl ⟨hu, rfl⟩)

end policies

/-- ARR has a meaning in binary only (rule R283). -/
theorem runs_arr (b1 : Byte) (s : State) : RunsItsCycles (.arr b1) s := by
  have he : exec (.arr b1) s = undocumented 0x6B 2 2
      (fun s => if inDecimal s.par s.cpu.p then none else some (arrA (readImm b1 s))) s := rfl
  have hu : (Instr.arr b1).form.name.unstable s = inDecimal s.par s.cpu.p := rfl
  cases hd : inDecimal s.par s.cpu.p with
  | true => exact runs_undocumented rfl he (.inl ⟨hu.trans hd, if_pos hd⟩)
  | false =>
    exact runs_undocumented rfl he
      (.inr ⟨hu.trans hd, _, if_neg (by simp [hd]), makes_read rfl (readImm_cycles (Instr.arr b1).form s rfl)⟩)

/-- Every instruction makes its cycle list: one case for each addressing mode of each operand class, and one for each
instruction with a list of its own.  The `rfl`s read the row of the instruction and its arm of `exec`. -/
theorem exec_runsItsCycles (i : Instr) (s : State) : RunsItsCycles i s := by
  cases i with
  -- class read
  | oraImm b1 | andImm b1 | eorImm b1 | adcImm b1 | ldyImm b1 | ldxImm b1 | ldaImm b1 | cpyImm b1 | cmpImm b1
  | cpxImm b1 | sbcImm b1 => exact runs_documented (makes_read rfl (readImm_cycles _ s rfl)) rfl rfl
  | oraZp b1 | bitZp b1 | andZp b1 | eorZp b1 | adcZp b1 | ldyZp b1 | ldaZp b1 | ldxZp b1 | cpyZp b1 | cmpZp b1
  | cpxZp b1 | sbcZp b1 => exact runs_documented (makes_read rfl (readZp_cycles _ s rfl)) rfl rfl
  | oraZpX b1 | andZpX b1 | eorZpX b1 | adcZpX b1 | ldyZpX b1 | ldaZpX b1 | cmpZpX b1 | sbcZpX b1 =>
    exact runs_documented (makes_read rfl (readZpX_cycles _ s rfl)) rfl rfl
  | ldxZpY b1 => exact runs_documented (makes_read rfl (readZpY_cycles _ s rfl)) rfl rfl
  | oraAbs lo hi | bitAbs lo hi | andAbs lo hi | eorAbs lo hi | adcAbs lo hi | ldyAbs lo hi | ldaAbs lo hi
  | ldxAbs lo hi | cpyAbs lo hi | cmpAbs lo hi | cpxAbs lo hi | sbcAbs lo hi =>
    exact runs_documented (makes_read rfl (readAbs_cycles _ s rfl)) rfl rfl
  | oraAbsX lo hi | andAbsX lo hi | eorAbsX lo hi | adcAbsX lo hi | ldyAbsX lo hi | ldaAbsX lo hi | cmpAbsX lo hi
  | sbcAbsX lo hi => exact runs_documented (makes_read rfl (readAbsX_cycles _ s rfl)) rfl rfl
  | oraAbsY lo hi | andAbsY lo hi | eorAbsY lo hi | adcAbsY lo hi | ldaAbsY lo hi | ldxAbsY lo hi | cmpAbsY lo hi
  | sbcAbsY lo hi => exact runs_documented (makes_read rfl (readAbsY_cycles _ s rfl)) rfl rfl
  | oraIzX b1 | andIzX b1 | eorIzX b1 | adcIzX b1 | ldaIzX b1 | cmpIzX b1 | sbcIzX b1 =>
    exact runs_documented (makes_read rfl (readIzX_cycles _ s rfl)) rfl rfl
  | oraIzY b1 | andIzY b1 | eorIzY b1 | adcIzY b1 | ldaIzY b1 | cmpIzY b1 | sbcIzY b1 =>
    exact runs_documented (makes_read rfl (readIzY_cycles _ s rfl)) rfl rfl
  -- class write
  | styZp b1 | staZp b1 | stxZp b1 => exact runs_documented (makes_write rfl (addrZp_cycles _ s rfl)) rfl rfl
  | styZpX b1 | staZpX b1 => exact runs_documented (makes_write rfl (addrZpX_cycles _ s rfl)) rfl rfl
  | stxZpY b1 => exact runs_documented (makes_write rfl (addrZpY_cycles _ s rfl)) rfl rfl
  | styAbs lo hi | staAbs lo hi | stxAbs lo hi =>
    exact runs_documented (makes_write rfl (addrAbs_cycles _ s rfl)) rfl rfl
  | staAbsX lo hi => exact runs_documented (makes_write rfl (addrAbsX_cycles _ s rfl)) rfl rfl
  | staAbsY lo hi => exact runs_documented (makes_write rfl (addrAbsY_cycles _ s rfl)) rfl rfl
  | staIzX b1 => exact runs_documented (makes_write rfl (addrIzX_cycles _ s rfl)) rfl rfl
  | staIzY b1 => exact runs_documented (makes_write rfl (addrIzY_cycles _ s rfl)) rfl rfl
  -- class rmw
  | aslZp b1 | rolZp b1 | lsrZp b1 | rorZp b1 | decZp b1 | incZp b1 =>
    exact runs_documented (makes_rmw rfl (addrZp_cycles _ s rfl)) rfl rfl
  | aslZpX b1 | rolZpX b1 | lsrZpX b1 | rorZpX b1 | decZpX b1 | incZpX b1 =>
    exact runs_documented (makes_rmw rfl (addrZpX_cycles _ s rfl)) rfl rfl
  | aslAbs lo hi | rolAbs lo hi | lsrAbs lo hi | rorAbs lo hi | decAbs lo hi | incAbs lo hi =>
    exact runs_documented (makes_rmw rfl (addrAbs_cycles _ s rfl)) rfl rfl
  | aslAbsX lo hi | rolAbsX lo hi | lsrAbsX lo hi | rorAbsX lo hi | decAbsX lo hi | incAbsX lo hi =>
    exact runs_documented (makes_rmw rfl (addrAbsX_cycles _ s rfl)) rfl rfl
  -- modes `imp` and `acc`
  | aslAcc | rolAcc | lsrAcc | rorAcc | clc | sec | cli | sei | dey | txa | tya | txs | tay | tax | clv | tsx | iny
  | dex | cld | inx | nop | sed => exact runs_implied rfl rfl rfl
  -- branches, jumps, the stack and traps
  | bpl d | bmi d | bvc d | bvs d | bcc d | bcs d | bne d | beq d =>
    exact runs_documented ⟨_, branch_cycles _ _ s⟩ rfl rfl
  | jmpAbs lo hi =>
    exact runs_documented ⟨_, by rw [fetchCycles_cycles, State.setPc_eq, State.setCpu_setCpu]; rfl⟩ rfl rfl
  | jmpInd lo hi => exact runs_documented ⟨_, jumpIndirect_cycles lo hi s⟩ rfl rfl
  | jsr lo hi => exact runs_documented (makes_jsr lo hi s) rfl rfl
  | rts => exact runs_documented ⟨_, returnFromCall_cycles s⟩ rfl rfl
  | pha | php => exact runs_documented (makes_push rfl) rfl rfl
  | pla => exact runs_documented (makes_pla s) rfl rfl
  | plp => exact runs_documented ⟨_, pullFlags_cycles s⟩ rfl rfl
  | brk => exact runs_documented ⟨_, takeTrap_cycles s⟩ rfl rfl
  | rti => exact runs_documented ⟨_, returnFromTrap_cycles s⟩ rfl rfl
  -- undocumented, in the same classes
  | ancImm op b1 | alr b1 | nopImm op b1 | sbx b1 | usbc b1 =>
    exact runs_stable (makes_read rfl (readImm_cycles _ s rfl)) rfl rfl (by rfl)
  | nopZp op b1 | laxZp b1 => exact runs_stable (makes_read rfl (readZp_cycles _ s rfl)) rfl rfl (by rfl)
  | nopZpX op b1 => exact runs_stable (makes_read rfl (readZpX_cycles _ s rfl)) rfl rfl (by rfl)
  | laxZpY b1 => exact runs_stable (makes_read rfl (readZpY_cycles _ s rfl)) rfl rfl (by rfl)
  | nopAbs lo hi | laxAbs lo hi => exact runs_stable (makes_read rfl (readAbs_cycles _ s rfl)) rfl rfl (by rfl)
  | nopAbsX op lo hi => exact runs_stable (makes_read rfl (readAbsX_cycles _ s rfl)) rfl rfl (by rfl)
  | las lo hi | laxAbsY lo hi => exact runs_stable (makes_read rfl (readAbsY_cycles _ s rfl)) rfl rfl (by rfl)
  | laxIzX b1 => exact runs_stable (makes_read rfl (readIzX_cycles _ s rfl)) rfl rfl (by rfl)
  | laxIzY b1 => exact runs_stable (makes_read rfl (readIzY_cycles _ s rfl)) rfl rfl (by rfl)
  | nopImp op => exact runs_stable ⟨_, impliedCycles_cycles s⟩ rfl rfl (by rfl)
  | saxZp b1 => exact runs_stable (makes_write rfl (addrZp_cycles _ s rfl)) rfl rfl (by rfl)
  | saxZpY b1 => exact runs_stable (makes_write rfl (addrZpY_cycles _ s rfl)) rfl rfl (by rfl)
  | saxAbs lo hi => exact runs_stable (makes_write rfl (addrAbs_cycles _ s rfl)) rfl rfl (by rfl)
  | saxIzX b1 => exact runs_stable (makes_write rfl (addrIzX_cycles _ s rfl)) rfl rfl (by rfl)
  | sloZp b1 | rlaZp b1 | sreZp b1 | rraZp b1 | dcpZp b1 | iscZp b1 =>
    exact runs_stable (makes_rmw rfl (addrZp_cycles _ s rfl)) rfl rfl (by rfl)
  | sloZpX b1 | rlaZpX b1 | sreZpX b1 | rraZpX b1 | dcpZpX b1 | iscZpX b1 =>
    exact runs_stable (makes_rmw rfl (addrZpX_cycles _ s rfl)) rfl rfl (by rfl)
  | sloAbs lo hi | rlaAbs lo hi | sreAbs lo hi | rraAbs lo hi | dcpAbs lo hi | iscAbs lo hi =>
    exact runs_stable (makes_rmw rfl (addrAbs_cycles _ s rfl)) rfl rfl (by rfl)
  | sloAbsX lo hi | rlaAbsX lo hi | sreAbsX lo hi | rraAbsX lo hi | dcpAbsX lo hi | iscAbsX lo hi =>
    exact runs_stable (makes_rmw rfl (addrAbsX_cycles _ s rfl)) rfl rfl (by rfl)
  | sloAbsY lo hi | rlaAbsY lo hi | sreAbsY lo hi | rraAbsY lo hi | dcpAbsY lo hi | iscAbsY lo hi =>
    exact runs_stable (makes_rmw rfl (addrAbsY_cycles _ s rfl)) rfl rfl (by rfl)
  | sloIzX b1 | rlaIzX b1 | sreIzX b1 | rraIzX b1 | dcpIzX b1 | iscIzX b1 =>
    exact runs_stable (makes_rmw rfl (addrIzX_cycles _ s rfl)) rfl rfl (by rfl)
  | sloIzY b1 | rlaIzY b1 | sreIzY b1 | rraIzY b1 | dcpIzY b1 | iscIzY b1 =>
    exact runs_stable (makes_rmw rfl (addrIzY_cycles _ s rfl)) rfl rfl (by rfl)
  | arr b1 => exact runs_arr b1 s
  | jam op | ane b1 | shaIzY b1 | tas lo hi | shy lo hi | shx lo hi | shaAbsY lo hi | lxa b1 =>
    exact runs_unstable rfl rfl rfl

/-- What an instruction can answer: the fault record in the state before it, or the state that its cycle list leads to
with some registers replaced, where no cycle raised. -/
theorem exec_next_cases {i : Instr} {s t : State} (h : exec i s = .next t) :
    t = raise i.form.op s ∨
    (t.fault = none ∧ i.unsupported s = false ∧ ∃ c, t = (busCycles (i.cycleList s) s).setCpu c) := by
  rcases exec_runsItsCycles i s with ⟨-, he⟩ | ⟨hu, c, he⟩
  · rw [h] at he
    cases he
    exact .inl rfl
  · rw [h] at he
    by_cases hf : ((busCycles (i.cycleList s) s).setCpu c).fault = none
    · rw [complete_none _ s hf] at he
      cases he
      exact .inr ⟨hf, hu, c, rfl⟩
    · rw [complete_some _ s hf] at he
      cases he
      exact .inl rfl

end Sys2Proof.Machine
end

section
/-!
PROOF. What no step changes (rules R7, R33, R52).
-/

namespace Sys2Proof.Machine

/-- No instruction changes the image, the parameters or the input snapshots. -/
theorem exec_keeps {i : Instr} {s t : State} (h : exec i s = .next t) :
    SameImage t.map s.map ∧ t.par = s.par ∧ t.inp = s.inp ∧ t.pending = s.pending := by
  rcases exec_next_cases h with rfl | ⟨-, -, c, rfl⟩
  · exact ⟨SameImage.refl _, rfl, rfl, rfl⟩
  · exact ⟨busCycles_image _ s, busCycles_par _ s, busCycles_inp _ s, busCycles_pending _ s⟩

@[simp] theorem takeInputs_par (s : State) : (takeInputs s).par = s.par := by
  unfold takeInputs
  split <;> rfl

@[simp] theorem takeInputs_map (s : State) : (takeInputs s).map = s.map := by
  unfold takeInputs
  split <;> rfl

theorem takeInputs_inp (s : State) : (takeInputs s).inp = s.pending.head?.getD s.inp := by
  unfold takeInputs
  split <;> simp [*]

theorem takeInputs_pending (s : State) : (takeInputs s).pending = s.pending.tail := by
  unfold takeInputs
  split <;> simp [*]

/-- A step that answers a next state is taken without a fault record, and is the fetched instruction's meaning (rules
R61, R302). -/
theorem step_next {s t : State} (h : step s = .next t) :
    s.fault = none ∧ exec (fetchInstr (takeInputs s)) (takeInputs s) = .next t := by
  unfold step at h
  split at h
  · cases h
  · exact ⟨‹_›, h⟩

/-- Settles O7: no instruction writes these fields, and the step takes the next input snapshot before it. -/
theorem stepKeepsCartridgeAndParameters : Obligations.StepKeepsCartridgeAndParameters := by
  unfold Obligations.StepKeepsCartridgeAndParameters
  intro s t h
  obtain ⟨-, he⟩ := step_next h
  obtain ⟨⟨hrom, hsize, hscheme⟩, hpar, hinp, hpending⟩ := exec_keeps he
  rw [takeInputs_map] at hrom hsize hscheme
  exact ⟨hpar.trans (takeInputs_par s), hrom, hsize, hscheme, hinp.trans (takeInputs_inp s),
    hpending.trans (takeInputs_pending s)⟩

end Sys2Proof.Machine
end

section
/-!
PROOF. The memory frame: what a list of bus cycles does to a byte of RAM and to a byte of the cartridge RAM (rules R66,
R69, R112).
-/

namespace Sys2Proof.Machine

/-- A byte of RAM after a write cycle. -/
theorem readCell_wr_ram {s : State} (hs : Memory.wf s.ram = true) (a : Word) (v : Byte) (k : BitVec 7) :
    readCell (wr a v s).ram k.toNat =
      if decodeBus (busAddr a) = .ram k then v else readCell s.ram k.toNat := by
  rw [wr_ram]
  cases hd : decodeBus (busAddr a) with
  | ram j => simp [readCell_writeCell _ _ _ _ hs, BitVec.toNat_inj, eq_comm]
  | cartridge off | tia reg | riot sel => simp

theorem busCycles_ram_wf (l : List BusCycle) {s : State} (hs : Memory.wf s.ram = true) :
    Memory.wf (busCycles l s).ram = true :=
  busCycles_induct (p := fun u => Memory.wf u.ram = true) l (fun a u _ h => by rwa [rd_ram])
    (fun a v u _ h => wr_ram_wf a v u h) hs

/-- A byte of RAM that no cycle writes keeps its value. -/
theorem readCell_busCycles_ram (l : List BusCycle) {s : State} {k : BitVec 7} (hs : Memory.wf s.ram = true)
    (hl : ∀ a v, .write a v ∈ l → decodeBus (busAddr a) ≠ .ram k) :
    readCell (busCycles l s).ram k.toNat = readCell s.ram k.toNat :=
  (busCycles_induct (p := fun u => Memory.wf u.ram = true ∧ readCell u.ram k.toNat = readCell s.ram k.toNat) l
    (fun a u _ h => by rwa [rd_ram])
    (fun a v u hm h => ⟨wr_ram_wf a v u h.1, by rw [readCell_wr_ram h.1, if_neg (hl a v hm), h.2]⟩) ⟨hs, rfl⟩).2

/-- A byte of RAM holds the byte of the last cycle that writes it. -/
theorem readCell_busCycles_ram_last (l r : List BusCycle) {s : State} {a : Word} {k : BitVec 7} (v : Byte)
    (hs : Memory.wf s.ram = true) (ha : decodeBus (busAddr a) = .ram k)
    (hr : ∀ b w, .write b w ∈ r → decodeBus (busAddr b) ≠ .ram k) :
    readCell (busCycles (l ++ .write a v :: r) s).ram k.toNat = v := by
  have hl := busCycles_ram_wf l hs
  rw [busCycles_append, busCycles, busCycle, readCell_busCycles_ram r (wr_ram_wf a v _ hl) hr]
  exact (readCell_wr_ram hl a v k).trans (if_pos ha)

/-- The cycle `c` accesses the place `k` of the write port of the cartridge RAM, in a scheme that has one (rule
R112). -/
def AccessesWritePort (scheme : Scheme) (k : BitVec 12) (c : BusCycle) : Prop :=
  hasCartRam scheme = true ∧ k.toNat < 0x80 ∧ decodeBus (busAddr c.addr) = .cartridge k

/-- A byte of the cartridge RAM after an access of the window at another offset. -/
theorem readCell_writePort {m : Memory} {off k : BitVec 12} {scheme : Scheme} (hm : Memory.wf m = true) (d : Byte)
    (h : ¬ (hasCartRam scheme = true ∧ k.toNat < 0x80 ∧ off = k)) :
    readCell (if hasCartRam scheme = true ∧ off.toNat < 0x80 then writeCell m off.toNat d else m) k.toNat =
      readCell m k.toNat := by
  split
  · next hw =>
    have hk : k.toNat ≠ off.toNat := fun e => by
      cases BitVec.eq_of_toNat_eq e
      exact h ⟨hw.1, hw.2, rfl⟩
    rw [readCell_writeCell _ _ _ _ hm, if_neg hk]
  · rfl

theorem busCycle_cartRam_wf (c : BusCycle) {s : State} (hs : Memory.wf s.map.ram = true) :
    Memory.wf (busCycle c s).map.ram = true := by
  cases c with
  | read a => exact rd_cartRam_wf a s hs
  | write a v => exact wr_cartRam_wf a v s hs

theorem busCycle_scheme (c : BusCycle) (s : State) : (busCycle c s).map.scheme = s.map.scheme := by
  cases c with
  | read a => exact (rd_image a s).2.2
  | write a v => exact (wr_image a v s).2.2

/-- A byte of the cartridge RAM after a cycle that does not access it by the write port. -/
theorem readCell_busCycle_cartRam (c : BusCycle) {s : State} {k : BitVec 12} (hs : Memory.wf s.map.ram = true)
    (h : ¬ AccessesWritePort s.map.scheme k c) :
    readCell (busCycle c s).map.ram k.toNat = readCell s.map.ram k.toNat := by
  have hp : ∀ off, decodeBus (busAddr c.addr) = .cartridge off →
      ¬ (hasCartRam s.map.scheme = true ∧ k.toNat < 0x80 ∧ off = k) :=
    fun off hd e => h ⟨e.1, e.2.1, e.2.2 ▸ hd⟩
  cases c with
  | read a =>
    rw [busCycle, rd_map]
    split
    · next off hd => rw [mapRead_ram]; exact readCell_writePort hs _ (hp off hd)
    · rfl
  | write a v =>
    rw [busCycle, wr_map]
    split
    · next off hd => rw [snoop_cartridge hd, mapWrite_ram]; exact readCell_writePort hs _ (hp off hd)
    · rw [snoop_ram]

/-- A byte of the cartridge RAM keeps its value where no cycle accesses it by the write port. -/
theorem readCell_busCycles_cartRam (l : List BusCycle) {s : State} {k : BitVec 12} (hs : Memory.wf s.map.ram = true)
    (hl : ∀ c ∈ l, ¬ AccessesWritePort s.map.scheme k c) :
    readCell (busCycles l s).map.ram k.toNat = readCell s.map.ram k.toNat := by
  induction l generalizing s with
  | nil => rfl
  | cons c rest ih =>
    rw [List.forall_mem_cons] at hl
    rw [busCycles, ih (busCycle_cartRam_wf c hs) (by rw [busCycle_scheme]; exact hl.2),
      readCell_busCycle_cartRam c hs hl.1]

/-- Settles O44: the instruction faults and changes no memory, or its memory is that of its cycle list. -/
theorem memoryChangesExactlyWhereWritten : Obligations.MemoryChangesExactlyWhereWritten := by
  unfold Obligations.MemoryChangesExactlyWhereWritten
  intro i s t hram hcart _ h
  obtain ⟨⟨hrom, -, -⟩, -⟩ := exec_keeps h
  have himage : ∀ k, readCell t.map.rom k = readCell s.map.rom k := fun k => by rw [hrom]
  rcases exec_next_cases h with rfl | ⟨-, -, c, rfl⟩
  · exact ⟨fun _ _ => rfl, fun _ _ _ _ _ hf => (Option.some_ne_none _ hf).elim, fun _ _ => rfl, himage⟩
  · refine ⟨fun k hk => readCell_busCycles_ram _ hram hk, ?_, fun k hk => ?_, himage⟩
    · intro l r a v k _ hl ha hr
      rw [State.setCpu_ram, hl]
      exact readCell_busCycles_ram_last l r v hram ha hr
    · exact readCell_busCycles_cartRam _ hcart fun c hc ⟨hs, hlt, hd⟩ => hk hs hlt c hc hd

end Sys2Proof.Machine
end

section
/-!
PROOF. The mapper keeps its banks valid and its stores in their ranges, and looks inside the image (rules R33, R37,
R122).
-/

namespace Sys2Proof.Machine

/-! ### Banks -/

theorem bytes_div_pos (z : ImageSize) : 0 < z.bytes / 2048 := by
  cases z <;> decide

theorem valid_iff (b : Banks) (k : Scheme) (z : ImageSize) :
    b.valid k z = true ↔ b.w0 < k.bankCount z ∧ b.w1 < k.bankCount z ∧ b.w2 < k.bankCount z := by
  simp only [Banks.valid, Bool.and_eq_true, decide_eq_true_eq, and_assoc]

/-- The hot-spots of a one-window scheme select among its banks. -/
theorem selectBank_valid {first count : Nat} {b : Banks} {k : Scheme} {z : ImageSize} (off : BitVec 12)
    (hc : count ≤ k.bankCount z) (hb : b.valid k z = true) : (selectBank first count off b).valid k z = true := by
  unfold selectBank
  split
  · rw [valid_iff] at hb ⊢
    exact ⟨by dsimp only; omega, hb.2⟩
  · exact hb

theorem selectSlice_valid {b : Banks} {z : ImageSize} (off : BitVec 12) (hb : b.valid .e0 z = true) :
    (selectSlice off b).valid .e0 z = true := by
  have hs : off.toNat % 8 < Scheme.bankCount .e0 z := Nat.mod_lt _ (by decide)
  rw [valid_iff] at hb ⊢
  obtain ⟨h0, h1, h2⟩ := hb
  unfold selectSlice
  dsimp only
  repeat' split
  · exact ⟨hs, h1, h2⟩
  · exact ⟨h0, hs, h2⟩
  · exact ⟨h0, h1, hs⟩
  · exact ⟨h0, h1, h2⟩

theorem hotSpot_valid {k : Scheme} {z : ImageSize} {b : Banks} (off : BitVec 12) (hb : b.valid k z = true) :
    (hotSpot k off b).valid k z = true := by
  cases k with
  | plain2k | plain4k | s3f => exact hb
  | f8 | f8sc | f6 | f6sc | f4 | f4sc | ef => exact selectBank_valid off (Nat.le_refl _) hb
  | e0 => exact selectSlice_valid off hb

/-- The trigger of scheme `3F` takes the byte modulo the number of banks (rule R118). -/
theorem snoop_valid {m : Mapper} (kind : Access) (a : BitVec 13) (v : Byte)
    (hb : m.bank.valid m.scheme m.size = true) : (snoop kind a v m).bank.valid m.scheme m.size = true := by
  unfold snoop
  split
  · next hs =>
    split
    · rw [hs, valid_iff] at hb ⊢
      exact ⟨Nat.mod_lt _ (bytes_div_pos m.size), hb.2⟩
    · exact hb
  · exact hb

/-! ### The image -/

/-- A byte of a bank of the image lies inside the image. -/
theorem bank_index_lt {w n len x total : Nat} (hw : w < n) (hx : x < len) (ht : n * len = total) :
    w * len + x < total := by
  calc w * len + x < w * len + len := by omega
    _ = (w + 1) * len := by ring
    _ ≤ n * len := Nat.mul_le_mul_right _ hw
    _ = total := ht

/-- The banks of the one-window schemes with 4 KiB banks make up the image (rule R103 table K-1). -/
theorem bankCount_mul_4096 {k : Scheme} {z : ImageSize} (hf : k.fits z = true)
    (hk : k ∈ [Scheme.f8, .f6, .f4, .ef, .f8sc, .f6sc, .f4sc]) : k.bankCount z * 4096 = z.bytes := by
  revert hf hk
  cases k <;> cases z <;> decide

theorem imageIndex_lt {m : Mapper} (hf : m.scheme.fits m.size = true)
    (hb : m.bank.valid m.scheme m.size = true) (off : BitVec 12) : imageIndex m off < m.size.bytes := by
  have ho : off.toNat < 4096 := off.isLt
  rw [valid_iff] at hb
  obtain ⟨h0, h1, h2⟩ := hb
  unfold imageIndex
  cases hk : m.scheme with
  | plain2k =>
    have hz : m.size = .k2 := by simpa [hk, Scheme.fits] using hf
    rw [hz]
    exact Nat.mod_lt _ (by decide)
  | plain4k =>
    have hz : m.size = .k4 := by simpa [hk, Scheme.fits] using hf
    rw [hz]
    exact ho
  | f8 | f6 | f4 | ef | f8sc | f6sc | f4sc =>
    exact bank_index_lt h0 ho (bankCount_mul_4096 hf (by simp [hk]))
  | e0 =>
    have hz : m.size = .k8 := by simpa [hk, Scheme.fits] using hf
    rw [hk] at h0 h1 h2
    rw [hz]
    refine bank_index_lt (n := 8) ?_ (Nat.mod_lt _ (by decide)) rfl
    repeat' split
    · exact h0
    · exact h1
    · exact h2
    · decide
  | s3f =>
    have hp := bytes_div_pos m.size
    rw [hk] at h0
    refine bank_index_lt (n := m.size.bytes / 2048) ?_ (Nat.mod_lt _ (by decide)) ?_
    · split
      · exact h0
      · omega
    · cases m.size <;> decide

/-- Settles O17: every hot-spot selects a bank that the image has, and every bank lies inside the image. -/
theorem mapperStaysInsideTheImage : Obligations.MapperStaysInsideTheImage := by
  unfold Obligations.MapperStaysInsideTheImage
  intro m hf hb
  exact ⟨imageIndex_lt hf hb, fun off d => by rw [mapRead_bank]; exact hotSpot_valid off hb,
    fun off v => by rw [mapWrite_bank]; exact hotSpot_valid off hb, fun kind a v => snoop_valid kind a v hb⟩

end Sys2Proof.Machine
end

section
/-!
PROOF. The invariant of the machine's state, by the device it speaks of: RAM, the mapper, the TIA, and the beam in step
with the cycle counter (rules R29, R33, R37, R369, R372, R376 to R378, R446).
-/

namespace Sys2Proof.Machine

/-! ### The mapper -/

/-- What the invariant says of the mapper (rules R33, R122). -/
structure MapperInv (m : Mapper) : Prop where
  ramForm : Memory.wf m.ram = true
  ramRange : belowBound 128 m.ram = true
  imageForm : Memory.wf m.rom = true
  imageRange : belowBound m.size.bytes m.rom = true
  fits : m.scheme.fits m.size = true
  banks : m.bank.valid m.scheme m.size = true

/-- A mapper with the same image, valid banks and a store of 128 bytes for its RAM keeps the invariant. -/
theorem MapperInv.of_sameImage {m n : Mapper} (h : MapperInv m) (hi : SameImage n m)
    (hb : n.bank.valid m.scheme m.size = true) (hf : Memory.wf n.ram = true) (hr : belowBound 128 n.ram = true) :
    MapperInv n := by
  obtain ⟨hrom, hsize, hscheme⟩ := hi
  exact {
    ramForm := hf
    ramRange := hr
    imageForm := hrom ▸ h.imageForm
    imageRange := by rw [hrom, hsize]; exact h.imageRange
    fits := by rw [hscheme, hsize]; exact h.fits
    banks := by rw [hscheme, hsize]; exact hb }

/-- An access to the window triggers its hot-spot and may write the RAM's write port (rules R105, R112). -/
theorem MapperInv.of_access {m n : Mapper} {off : BitVec 12} {d : Byte} (h : MapperInv m) (hi : SameImage n m)
    (hb : n.bank = hotSpot m.scheme off m.bank)
    (hr : n.ram = if hasCartRam m.scheme = true ∧ off.toNat < 0x80 then writeCell m.ram off.toNat d else m.ram) :
    MapperInv n := by
  refine h.of_sameImage hi (hb ▸ hotSpot_valid off h.banks) ?_ ?_
  all_goals rw [hr]; split
  · exact Memory.wf_writeCell _ _ _ h.ramForm
  · exact h.ramForm
  · next hw => exact belowBound_writeCell _ _ _ (by omega) h.ramRange
  · exact h.ramRange

theorem MapperInv.mapRead {m : Mapper} (h : MapperInv m) (off : BitVec 12) (d : Byte) :
    MapperInv (mapRead off d m).2 :=
  h.of_access (mapRead_image off d m) (mapRead_bank off d m) (mapRead_ram off d m)

theorem MapperInv.mapWrite {m : Mapper} (h : MapperInv m) (off : BitVec 12) (v : Byte) :
    MapperInv (mapWrite off v m) :=
  h.of_access (mapWrite_image off v m) (mapWrite_bank off v m) (mapWrite_ram off v m)

theorem MapperInv.snoop {m : Mapper} (h : MapperInv m) (kind : Access) (a : BitVec 13) (v : Byte) :
    MapperInv (snoop kind a v m) :=
  h.of_sameImage (snoop_image kind a v m) (snoop_valid kind a v h.banks) (by rw [snoop_ram]; exact h.ramForm)
    (by rw [snoop_ram]; exact h.ramRange)

/-! ### The TIA -/

/-- What the invariant says of the TIA of a machine with generator `k` (rules R369, R372, R376 to R378, R446). -/
structure TiaInv (k : WaveKind) (t : Tia) : Prop where
  heldInside : t.beam.wsync = true → t.beam.hcount ≠ 0
  latches : t.sync.latchEn = false → t.latch = ⟨true, true⟩
  nusiz0 : t.p0.nusiz.getLsbD 3 = false
  nusiz1 : t.p1.nusiz.getLsbD 3 = false
  ctrlpf : t.pf.ctrlpf.getLsbD 3 = false
  colup0 : t.p0.colup.getLsbD 0 = false
  colup1 : t.p1.colup.getLsbD 0 = false
  colupf : t.pf.colupf.getLsbD 0 = false
  colubk : t.pf.colubk.getLsbD 0 = false
  wave0 : t.ch0.awave.kind = k
  wave1 : t.ch1.awave.kind = k

theorem maskSix_bit3 (v : Byte) : (maskSix v).getLsbD 3 = false := by
  simp [maskSix]

theorem evenColour_bit0 (v : Byte) : (v &&& 0xFE).getLsbD 0 = false := by
  simp

/-- Rewinding the scanline counter leaves the column and the hold of the beam (rule R367). -/
theorem writeVsync_beam (v : Byte) (t : Tia) :
    (writeVsync v t).beam.hcount = t.beam.hcount ∧ (writeVsync v t).beam.wsync = t.beam.wsync := by
  unfold writeVsync
  dsimp only
  split <;> exact ⟨rfl, rfl⟩

/-- A write to a TIA register keeps the invariant: only VSYNC, VBLANK, WSYNC and the masked registers touch it. -/
theorem TiaInv.tiaStore {k : WaveKind} {t : Tia} (h : TiaInv k t) (m : Nat) (reg : BitVec 6) (v : Byte) :
    TiaInv k (tiaStore m reg v t) := by
  unfold Machine.tiaStore
  split
  case h_1 =>
    obtain ⟨hh, hw⟩ := writeVsync_beam v t
    exact { h with heldInside := by rw [hh, hw]; exact h.heldInside }
  case h_2 =>
    refine { h with latches := fun (hv : bit v 6 = false) => ?_ }
    simp [writeVblank, hv]
  case h_3 =>
    unfold strobeWsync
    split
    · exact h
    · next hc => exact { h with heldInside := fun _ => hc }
  case h_4 => exact { h with nusiz0 := maskSix_bit3 v }
  case h_5 => exact { h with nusiz1 := maskSix_bit3 v }
  case h_6 => exact { h with colup0 := evenColour_bit0 v }
  case h_7 => exact { h with colup1 := evenColour_bit0 v }
  case h_8 => exact { h with colupf := evenColour_bit0 v }
  case h_9 => exact { h with colubk := evenColour_bit0 v }
  case h_10 => exact { h with ctrlpf := maskSix_bit3 v }
  all_goals exact { h with }

/-- A chip-cycle clears the hold where it takes the counter to 0, latches only where the latches are on, and writes no
register (rules R365, R372, R415). -/
theorem TiaInv.tiaClock {k : WaveKind} {t : Tia} (h : TiaInv k t) (par : Params) (inp : Inputs) :
    TiaInv k (tiaClock par inp t).1 := by
  have hr := tiaClock_registers par inp t
  obtain ⟨hk0, hk1⟩ := tiaClock_kind par inp t
  have hp0 : (Machine.tiaClock par inp t).1.p0 = t.p0 := (congrArg Tia.p0 hr :)
  have hp1 : (Machine.tiaClock par inp t).1.p1 = t.p1 := (congrArg Tia.p1 hr :)
  have hpf : (Machine.tiaClock par inp t).1.pf = t.pf := (congrArg Tia.pf hr :)
  refine ⟨?_, ?_, hp0 ▸ h.nusiz0, hp1 ▸ h.nusiz1, hpf ▸ h.ctrlpf, hp0 ▸ h.colup0, hp1 ▸ h.colup1, hpf ▸ h.colupf,
    hpf ▸ h.colubk, hk0.trans h.wave0, hk1.trans h.wave1⟩
  · rw [tiaClock_wsync, tiaClock_hcount]
    intro hw
    have hn : t.beam.hcount ≠ 227 := by simpa using (Bool.and_eq_true_iff.mp hw).2
    rw [if_neg hn]
    omega
  · rw [tiaClock_sync, tiaClock_latch]
    intro hl
    rw [latchInputs, if_neg (by simp [hl])]
    exact h.latches hl

theorem TiaInv.runTia {k : WaveKind} {t : Tia} (h : TiaInv k t) (par : Params) (inp : Inputs) (n : Nat) :
    TiaInv k (runTia par inp n t) := by
  induction n generalizing t with
  | zero => exact h
  | succ n ih => exact ih (h.tiaClock par inp)

/-! ### The beam -/

theorem tiaClock_hcount_val (par : Params) (inp : Inputs) (t : Tia) :
    (tiaClock par inp t).1.beam.hcount.val = (t.beam.hcount.val + 1) % 228 := by
  rw [tiaClock_hcount]
  split
  · next h => rw [h]; rfl
  · rw [Fin.val_add]; rfl

/-- After `n` chip-cycles the beam is `n` columns on (rule R364). -/
theorem runTia_hcount_val (par : Params) (inp : Inputs) (n : Nat) (t : Tia) :
    (runTia par inp n t).beam.hcount.val = (t.beam.hcount.val + n) % 228 := by
  induction n generalizing t with
  | zero => exact (Nat.mod_eq_of_lt t.beam.hcount.isLt).symm
  | succ n ih => rw [runTia, ih, tiaClock_hcount_val]; omega

/-- No register write moves the beam along its line. -/
theorem tiaStore_hcount (m : Nat) (reg : BitVec 6) (v : Byte) (t : Tia) :
    (tiaStore m reg v t).beam.hcount = t.beam.hcount := by
  unfold tiaStore
  split
  case h_1 => exact (writeVsync_beam v t).1
  case h_3 => unfold strobeWsync; split <;> rfl
  all_goals rfl

/-! ### The whole state -/

theorem inv_iff (s : State) :
    Inv s ↔ (Memory.wf s.ram = true ∧ belowBound 128 s.ram = true) ∧ MapperInv s.map ∧ TiaInv s.par.wave s.tia ∧
      s.tia.beam.hcount.val = 3 * s.cyc % 228 := by
  constructor
  · intro h
    exact ⟨⟨h.ramForm, h.ramRange⟩,
      ⟨h.cartRamForm, h.cartRamRange, h.imageForm, h.imageRange, h.fits, h.banks⟩,
      ⟨h.heldInside, h.latches, h.nusiz0, h.nusiz1, h.ctrlpf, h.colup0, h.colup1, h.colupf, h.colubk, h.wave0, h.wave1⟩,
      h.inStep⟩
  · rintro ⟨⟨hf, hr⟩, hm, ht, hs⟩
    exact ⟨hf, hr, hm.ramForm, hm.ramRange, hm.imageForm, hm.imageRange, hm.fits, hm.banks, hs, ht.heldInside,
      ht.latches, ht.nusiz0, ht.nusiz1, ht.ctrlpf, ht.colup0, ht.colup1, ht.colupf, ht.colubk, ht.wave0, ht.wave1⟩

/-- The invariant does not look at the registers, the fault record, the input snapshots. -/
theorem Inv.congr {s t : State} (h : Inv s) (hram : t.ram = s.ram) (hmap : t.map = s.map) (htia : t.tia = s.tia)
    (hpar : t.par = s.par) (hcyc : t.cyc = s.cyc) : Inv t := by
  rw [inv_iff] at h ⊢
  rwa [hram, hmap, htia, hpar, hcyc]

theorem Inv.advanceChips {s : State} (h : Inv s) : Inv (advanceChips s) := by
  rw [inv_iff] at h ⊢
  obtain ⟨hr, hm, ht, hs⟩ := h
  rw [advanceChips_ram, advanceChips_map, advanceChips_par, advanceChips_cyc, advanceChips_runTia]
  exact ⟨hr, hm, ht.runTia _ _ 3, by rw [runTia_hcount_val, hs]; omega⟩

theorem Inv.rd {s : State} (h : Inv s) (a : Word) : Inv (rd a s).2 := by
  have hh : Inv (Machine.advanceChips (hold s)) := (hold_induct (p := Inv) (fun _ h => h.advanceChips) h).advanceChips
  rw [inv_iff] at hh ⊢
  obtain ⟨hr, -, ht, hs⟩ := hh
  have hm := ((inv_iff s).mp h).2.1
  refine ⟨by rw [rd_ram]; simpa using hr, ?_, by rw [rd_tia, rd_par]; simpa using ht, ?_⟩
  · rw [rd_map]
    split
    · exact hm.mapRead _ _
    · exact hm
  · rw [rd_tia, rd_cyc, hs, advanceChips_cyc]

theorem Inv.wr {s : State} (h : Inv s) (a : Word) (v : Byte) : Inv (wr a v s) := by
  rw [inv_iff] at h ⊢
  obtain ⟨⟨hf, hr⟩, hm, ht, hs⟩ := h
  have hb : (Machine.runTia s.par s.inp 3 s.tia).beam.hcount.val = 3 * (s.cyc + 1) % 228 := by
    rw [runTia_hcount_val, hs]; omega
  rw [wr_par, wr_cyc, wr_ram, wr_map]
  cases hd : decodeBus (busAddr a) with
  | tia reg =>
    rw [wr_tia v s hd]
    exact ⟨⟨hf, hr⟩, hm.snoop _ _ _, (ht.runTia _ _ 3).tiaStore _ _ _, by rw [tiaStore_hcount, hb]⟩
  | ram i =>
    rw [wr_runTia_elsewhere v s (by simp [hd])]
    exact ⟨⟨Memory.wf_writeCell _ _ _ hf, belowBound_writeCell _ _ _ i.isLt hr⟩, hm.snoop _ _ _, ht.runTia _ _ 3, hb⟩
  | cartridge off =>
    rw [wr_runTia_elsewhere v s (by simp [hd])]
    exact ⟨⟨hf, hr⟩, (hm.snoop _ _ _).mapWrite _ _, ht.runTia _ _ 3, hb⟩
  | riot sel =>
    rw [wr_runTia_elsewhere v s (by simp [hd])]
    exact ⟨⟨hf, hr⟩, hm.snoop _ _ _, ht.runTia _ _ 3, hb⟩

theorem Inv.takeInputs {s : State} (h : Inv s) : Inv (takeInputs s) := by
  unfold Machine.takeInputs
  split
  · exact h
  · exact h.congr rfl rfl rfl rfl rfl

theorem Inv.exec {i : Instr} {s t : State} (h : Inv s) (he : exec i s = .next t) : Inv t := by
  rcases exec_next_cases he with rfl | ⟨-, -, c, rfl⟩
  · exact h.congr rfl rfl rfl rfl rfl
  · have hl : Inv (busCycles (i.cycleList s) s) :=
      busCycles_induct _ (fun a _ _ h => h.rd a) (fun a v _ _ h => h.wr a v) h
    exact hl.congr rfl rfl rfl rfl rfl

/-- Settles O10: every bus cycle keeps the invariant, and a step is bus cycles and registers. -/
theorem stepKeepsTheInvariant : Obligations.StepKeepsTheInvariant := by
  unfold Obligations.StepKeepsTheInvariant
  intro s t h hs
  obtain ⟨-, he⟩ := step_next hs
  exact h.takeInputs.exec he

end Sys2Proof.Machine
end

section
/-!
PROOF. `Reset()` and loading: the state they leave, field by field, and that it meets the invariant (rules R101 to R104,
R121, R344, R418, R448, R460, R462).
-/

namespace Sys2Proof.Machine

/-! ### Reading the reset vector -/

/-- The reset vector is no hot-spot of any scheme. -/
theorem mapRead_vector {off : BitVec 12} (h : off = 0xFFC ∨ off = 0xFFD) (d : Byte) (m : Mapper) :
    mapRead off d m = (readCell m.rom (imageIndex m off), m) := by
  have ht : triggered off m = m := by
    rcases h with rfl | rfl <;> rcases m with ⟨k, z, rom, bank, ram⟩ <;> cases k <;> rfl
  have hp : ¬ off.toNat < 0x080 ∧ ¬ off.toNat < 0x100 := by
    rcases h with rfl | rfl <;> decide
  simp only [mapRead, ht, if_neg hp.1, if_neg hp.2, ite_self]

/-- A byte of the reset vector, read without a cycle (rule R81). -/
theorem readNoCycle_vector {a : Word} {off : BitVec 12} (ha : decodeBus (busAddr a) = .cartridge off)
    (h : off = 0xFFC ∨ off = 0xFFD) (s : State) :
    readNoCycle a s =
      (readCell s.map.rom (imageIndex s.map off), { s with dbus := readCell s.map.rom (imageIndex s.map off) }) := by
  simp only [readNoCycle, routeRead, snoop_read, ha, mapRead_vector h]

/-- `Reset()` is the reset of the chips, then `PC` from the vector, whose high byte stays on the bus (rule R460). -/
theorem hostReset_eq (s : State) :
    hostReset s =
      { resetChips s with
        cpu := resetCpu s.par
          (word (readCell s.map.rom (imageIndex (resetChips s).map 0xFFD))
            (readCell s.map.rom (imageIndex (resetChips s).map 0xFFC)))
        dbus := readCell s.map.rom (imageIndex (resetChips s).map 0xFFD) } := by
  simp only [hostReset, readNoCycle_vector (a := 0xFFFC) (off := 0xFFC) (by decide) (.inl rfl),
    readNoCycle_vector (a := 0xFFFD) (off := 0xFFD) (by decide) (.inr rfl)]
  rfl

theorem hostReset_reset : hostReset State.reset = State.reset := by
  rw [hostReset_eq]
  rfl

/-- The default start banks of a scheme other than `E0` (rule R104). -/
theorem defaultBanks_of_ne {k : Scheme} (h : k ≠ .e0) : defaultBanks k = ⟨0, 0, 0⟩ := by
  cases k with
  | e0 => exact absurd rfl h
  | plain2k | plain4k | f8 | f6 | f4 | ef | f8sc | f6sc | f4sc | s3f => rfl

/-- Settles O8: `Reset()` gives each field its value outright, and takes `PC` from the vector. -/
theorem resetGivesTheStatedState : Obligations.ResetGivesTheStatedState := by
  unfold Obligations.ResetGivesTheStatedState
  refine ⟨fun s => ?_, hostReset_reset⟩
  have hbank : (hostReset s).map.bank = startBanks s.par s.map.scheme := by rw [hostReset_eq]; rfl
  have hsome : ∀ b, s.par.startBank = some b → (hostReset s).map.bank = b :=
    fun b h => hbank.trans (startBanks_some h _)
  have hnone : s.par.startBank = none → (hostReset s).map.bank = defaultBanks s.map.scheme :=
    fun h => hbank.trans (startBanks_none h _)
  have he0 : s.par.startBank = none → s.map.scheme = .e0 → (hostReset s).map.bank = ⟨4, 5, 6⟩ :=
    fun h hk => (hnone h).trans (by rw [hk]; rfl)
  have hother : s.par.startBank = none → s.map.scheme ≠ .e0 → (hostReset s).map.bank = ⟨0, 0, 0⟩ :=
    fun h hk => (hnone h).trans (defaultBanks_of_ne hk)
  dsimp only
  refine ⟨?_, ?_, ?_, ?_, ?_, ?_, ?_, ?_, ?_, ?_, ?_, ?_, ?_, ?_, ?_, hsome, he0, hother, ?_, ?_, ?_, ?_, ?_⟩
  all_goals rw [hostReset_eq]
  all_goals rfl

/-! ### The invariant -/

/-- The TIA after reset meets the invariant, whatever the generator's initial state. -/
theorem tiaInv_reset (k : WaveKind) : TiaInv k (Tia.reset (waveInit k)) := by
  constructor <;> simp [Tia.reset, Player.reset, Channel.reset]

theorem resetStores_wf {par : Params} {k : Scheme} {z : ImageSize} (h : par.wellFormed k z = true) :
    (Memory.wf par.resetRam = true ∧ belowBound 128 par.resetRam = true) ∧
    Memory.wf par.resetScram = true ∧ belowBound 128 par.resetScram = true := by
  simp only [Params.wellFormed, Bool.and_eq_true] at h
  obtain ⟨⟨⟨⟨-, hw⟩, hb⟩, hsw⟩, hsb⟩ := h
  exact ⟨⟨hw, hb⟩, hsw, hsb⟩

/-- `Reset()` leaves the invariant where the parameters are admissible and the cartridge is one (rules R121, R460). -/
theorem inv_hostReset {s : State} (hp : s.par.wellFormed s.map.scheme s.map.size = true)
    (hf : s.map.scheme.fits s.map.size = true) (hrom : Memory.wf s.map.rom = true)
    (hsize : belowBound s.map.size.bytes s.map.rom = true) (hram : Memory.wf s.map.ram = true)
    (hbound : belowBound 128 s.map.ram = true) : Inv (hostReset s) := by
  rw [hostReset_eq, inv_iff]
  exact ⟨(resetStores_wf hp).1, ⟨hram, hbound, hrom, hsize, hf, startBanks_valid hf hp⟩, tiaInv_reset _, rfl⟩

/-- A successful load passed its three checks, and is `Reset()` of a machine that holds the image (rules R101, R462). -/
theorem load_ok {par : Params} {scheme : Option Scheme} {image : List Byte} {inp : Inputs} {s : State}
    (h : load par scheme image inp = .ok s) :
    ∃ k z, sizeOfBytes image.length = some z ∧ k.fits z = true ∧ par.wellFormed k z = true ∧
      s = hostReset { State.reset with
        map := ⟨k, z, storeBytes 0 image, startBanks par k, par.resetScram⟩, par := par, inp := inp } := by
  unfold load at h
  split at h
  · cases h
  · next z hz =>
    dsimp only at h
    split at h
    · cases h
    · next hf =>
      split at h
      · cases h
      · next hp =>
        cases h
        exact ⟨_, z, hz, by simpa using hf, by simpa using hp, rfl⟩

/-- Settles O9: each part of the state that `Reset()` writes is in range, and loading fills the image in range. -/
theorem invariantHoldsAtReset : Obligations.InvariantHoldsAtReset := by
  unfold Obligations.InvariantHoldsAtReset
  refine ⟨fun s => inv_hostReset, fun par scheme image inp s h => ?_, ?_⟩
  · obtain ⟨k, z, hz, hf, hp, rfl⟩ := load_ok h
    obtain ⟨-, hsw, hsb⟩ := resetStores_wf hp
    have hb : belowBound z.bytes (storeBytes 0 image) = true := by
      have := storeBytes_below 0 image
      rwa [Nat.zero_add, ← sizeOfBytes_bytes hz] at this
    exact inv_hostReset hp hf (storeBytes_wf 0 image) hb hsw hsb
  · rw [← hostReset_reset]
    exact inv_hostReset (by decide) (by decide) (by decide) (by decide) (by decide) (by decide)

end Sys2Proof.Machine
end

section
/-!
PROOF. What a step runs, and when it sets the fault record (rules R35, R52, R61, R146, R280, R302, R373).
-/

namespace Sys2Proof.Machine

/-! ### Decoding -/

/-- Every cell of the opcode map builds well-formed instructions only (rules R143, R281). -/
theorem opcodeMap_build_wellFormed : ∀ c ∈ opcodeMap, ∀ b1 b2, (c.build b1 b2).wellFormed = true := by
  simp only [opcodeMap, opcodeRow0, opcodeRow1, opcodeRow2, opcodeRow3, opcodeRow4, opcodeRow5, opcodeRow6, opcodeRow7,
    opcodeRow8, opcodeRow9, opcodeRowA, opcodeRowB, opcodeRowC, opcodeRowD, opcodeRowE, opcodeRowF,
    List.forall_mem_append, List.forall_mem_cons]
  simp [Instr.wellFormed, jamOpcodes, nopImpOpcodes, nopImmOpcodes, nopZpOpcodes, nopZpXOpcodes, nopAbsXOpcodes,
    ancOpcodes]

theorem instrOf_wellFormed (op b1 b2 : Byte) : (instrOf op b1 b2).wellFormed = true :=
  opcodeMap_build_wellFormed _ (List.getElem_mem _) b1 b2

/-- The fetch reads three bytes, and the instruction is built from them (rules R146, R258). -/
theorem fetchInstr_eq (s : State) :
    ∃ op b1 b2, fetchBytes s = [op, b1, b2] ∧ fetchInstr s = instrOf op b1 b2 :=
  ⟨_, _, _, rfl, rfl⟩

/-- The decoder builds its instruction from the first three bytes. -/
theorem decode_three {op b1 b2 : Byte} {i : Instr} {rest : List Byte} (h : decode [op, b1, b2] = .ok (i, rest)) :
    i = instrOf op b1 b2 := by
  rw [decode] at h
  split at h
  · cases h
  · exact (congrArg Prod.fst (Except.ok.inj h)).symm

/-- Settles O3: the step and the decoder build the same instruction from the fetched bytes. -/
theorem stepRunsTheDecodedInstruction : Obligations.StepRunsTheDecodedInstruction := by
  unfold Obligations.StepRunsTheDecodedInstruction
  intro s i rest hf hd
  obtain ⟨op, b1, b2, hb, hi⟩ := fetchInstr_eq (takeInputs s)
  rw [hb] at hd
  rw [decode_three hd]
  exact ⟨instrOf_wellFormed op b1 b2, by rw [step, hf, hi]⟩

/-! ### The fault record -/

@[simp] theorem takeInputs_cpu (s : State) : (takeInputs s).cpu = s.cpu := by
  unfold takeInputs
  split <;> rfl

@[simp] theorem takeInputs_fault (s : State) : (takeInputs s).fault = s.fault := by
  unfold takeInputs
  split <;> rfl

/-- An instruction that sets the fault record is unsupported, or writes RSYNC where the machine faults on that; and it
leaves the state before it (rules R280, R373). -/
theorem exec_faults {i : Instr} {s t : State} (hs : s.fault = none) (h : exec i s = .next t) (hf : t.fault ≠ none) :
    t = raise i.form.op s ∧
      (i.unsupported s = true ∨ s.par.rsyncPolicy = .fault ∧ writesRsync (i.cycleList s) = true) := by
  rcases exec_runsItsCycles i s with ⟨hu, he⟩ | ⟨-, c, he⟩
  · rw [h] at he
    cases he
    exact ⟨rfl, .inl hu⟩
  · by_cases hq : Quiet (i.cycleList s) s
    · rw [complete_cycles _ c hs hq, h] at he
      cases he
      exact absurd ((busCycles_fault hq).trans hs) hf
    · rw [complete_raises _ c hq, h] at he
      cases he
      obtain ⟨hw, hp⟩ := not_or.mp hq
      refine ⟨rfl, .inr ⟨?_, by simpa using hw⟩⟩
      cases hr : s.par.rsyncPolicy with
      | ignore => exact absurd hr hp
      | fault => rfl

/-- Settles O6: a step that sets the record is the fetched instruction's, which discards everything else. -/
theorem faultLeavesThePriorState : Obligations.FaultLeavesThePriorState := by
  unfold Obligations.FaultLeavesThePriorState
  intro s t r hs h hr
  obtain ⟨-, he⟩ := step_next h
  obtain ⟨ht, hc⟩ := exec_faults (by rw [takeInputs_fault, hs]) he (by simp [hr])
  have hrec : r = ⟨(fetchInstr (takeInputs s)).form.op, (takeInputs s).cpu.pc⟩ := by
    rw [ht] at hr
    exact (Option.some.inj hr).symm
  rw [takeInputs_par] at hc
  exact ⟨by rw [ht, hrec]; rfl, by rw [hrec], by rw [hrec, takeInputs_cpu], hc⟩

end Sys2Proof.Machine
end

section
/-!
PROOF. VSYNC, VBLANK, the input latches and the collision latches: what a chip-cycle and a register write do to each
(rules R365, R367 to R369, R394, R410, R412, R415).
-/

namespace Sys2Proof.Machine

/-! ### The input latches -/

@[simp] theorem runTia_sync (par : Params) (inp : Inputs) (n : Nat) (t : Tia) :
    (runTia par inp n t).sync = t.sync := by
  induction n generalizing t with
  | zero => rfl
  | succ n ih => rw [runTia, ih, tiaClock_sync]

/-- While the latches are on, a latch goes to 0 with its pin (rule R415). -/
theorem tiaClock_latch_on {t : Tia} (h : t.sync.latchEn = true) (par : Params) (inp : Inputs) :
    (tiaClock par inp t).1.latch = ⟨t.latch.inpt4 && inp.inpt4, t.latch.inpt5 && inp.inpt5⟩ := by
  rw [tiaClock_latch, latchInputs, if_pos h]

theorem tiaClock_latch_off {t : Tia} (h : t.sync.latchEn = false) (par : Params) (inp : Inputs) :
    (tiaClock par inp t).1.latch = t.latch := by
  rw [tiaClock_latch, latchInputs, if_neg (by simp [h])]

/-- A constant pin takes its latch down in the first chip-cycle or not at all. -/
theorem runTia_latch_on {t : Tia} (h : t.sync.latchEn = true) (par : Params) (inp : Inputs) (n : Nat) :
    (runTia par inp (n + 1) t).latch = ⟨t.latch.inpt4 && inp.inpt4, t.latch.inpt5 && inp.inpt5⟩ := by
  induction n with
  | zero => exact tiaClock_latch_on h par inp
  | succ n ih =>
    rw [runTia_succ, tiaClock_latch_on (by rw [runTia_sync, h]), ih]
    simp only [Bool.and_assoc, Bool.and_self]

theorem runTia_latch_off {t : Tia} (h : t.sync.latchEn = false) (par : Params) (inp : Inputs) (n : Nat) :
    (runTia par inp n t).latch = t.latch := by
  induction n with
  | zero => rfl
  | succ n ih => rw [runTia_succ, tiaClock_latch_off (by rw [runTia_sync, h]), ih]

/-! ### VSYNC and VBLANK -/

/-- What a write to the TIA puts out, in front of the output of its three chip-cycles (rules R36, R367). -/
theorem wr_out {a : Word} {reg : BitVec 6} (h : decodeBus (busAddr a) = .tia reg) (v : Byte) (s : State) :
    (wr a v s).out = tiaStoreEvents reg v (runTia s.par s.inp 3 s.tia) ++ (advanceChips s).out := by
  simp only [wr, routeWrite, h, writeTia, advanceChips_runTia]

theorem tiaStore_vsync (m : Nat) (v : Byte) (t : Tia) : tiaStore m 0x00 v t = writeVsync v t := rfl

theorem tiaStore_vblank (m : Nat) (v : Byte) (t : Tia) : tiaStore m 0x01 v t = writeVblank v t := rfl

/-- Only the scanline counter of the beam changes (rule R367). -/
theorem writeVsync_eq (v : Byte) (t : Tia) :
    writeVsync v t = { t with
      sync := { t.sync with vsync := bit v 1 }
      beam := { t.beam with line := (writeVsync v t).beam.line } } := by
  unfold writeVsync
  split <;> rfl

/-- At the rising edge the line counter is 0 and the frame ends. -/
theorem writeVsync_rising {v : Byte} {t : Tia} (h : t.sync.vsync = false ∧ v.getLsbD 1 = true) :
    (writeVsync v t).beam.line = 0 ∧ tiaStoreEvents 0x00 v t = [.endOfFrame] := by
  obtain ⟨hs, hv⟩ := h
  simp [writeVsync, tiaStoreEvents, bit, hs, hv]

theorem writeVsync_not_rising {v : Byte} {t : Tia} (h : ¬(t.sync.vsync = false ∧ v.getLsbD 1 = true)) :
    (writeVsync v t).beam.line = t.beam.line ∧ tiaStoreEvents 0x00 v t = [] := by
  have he : (!t.sync.vsync && bit v 1) = false := by
    rwa [← Bool.not_eq_true, Bool.and_eq_true, Bool.not_eq_true']
  exact ⟨by simp [writeVsync, he], if_neg fun hr => h hr.2⟩

theorem writeVblank_eq (v : Byte) (t : Tia) :
    writeVblank v t = { t with
      sync := { t.sync with vblank := v.getLsbD 1, latchEn := v.getLsbD 6, dumpEn := v.getLsbD 7 }
      latch := (writeVblank v t).latch } := rfl

/-- Switching the latches off releases them (rule R369). -/
theorem writeVblank_latch (v : Byte) (t : Tia) :
    (writeVblank v t).latch = if v.getLsbD 6 then t.latch else ⟨true, true⟩ := rfl

/-- Settles O54: the latches by induction over the chip-cycles, VSYNC by whether its edge rises, VBLANK by bit 6. -/
theorem verticalSyncBlankAndInputLatches : Obligations.VerticalSyncBlankAndInputLatches := by
  unfold Obligations.VerticalSyncBlankAndInputLatches
  refine ⟨fun par inp t n => ⟨fun h => ?_, fun h => runTia_latch_off h par inp (n + 1)⟩, fun s addr v => ?_⟩
  · rw [runTia_latch_on h]
    exact ⟨rfl, rfl⟩
  dsimp only
  refine ⟨fun hd => ?_, fun hd => ?_⟩
  · rw [wr_tia v s hd, tiaStore_vsync, wr_out hd]
    generalize runTia s.par s.inp 3 s.tia = t
    refine ⟨writeVsync_eq v t, fun h => ?_, fun h => ?_⟩
    · obtain ⟨hl, he⟩ := writeVsync_rising h
      exact ⟨hl, by rw [he, List.singleton_append]⟩
    · obtain ⟨hl, he⟩ := writeVsync_not_rising h
      exact ⟨hl, by rw [he, List.nil_append]⟩
  · rw [wr_tia v s hd, tiaStore_vblank]
    generalize runTia s.par s.inp 3 s.tia = t
    exact ⟨writeVblank_eq v t, fun h => by rw [writeVblank_latch, if_neg (ne_true_of_eq_false h)],
      fun h => by rw [writeVblank_latch, if_pos h]⟩

/-! ### The collision latches -/

/-- The fifteen latches, as functions of the whole (rule R410). -/
def Collisions.latches : List (Collisions → Bool) :=
  [(·.m0p1), (·.m0p0), (·.m1p0), (·.m1p1), (·.p0pf), (·.p0bl), (·.p1pf), (·.p1bl), (·.m0pf), (·.m0bl), (·.m1pf),
   (·.m1bl), (·.blpf), (·.p0p1), (·.m0m1)]

theorem Collisions.le_iff (c d : Collisions) : c.le d = true ↔ ∀ f ∈ latches, f c = true → f d = true := by
  have hi : ∀ a b : Bool, (!a || b) = true ↔ (a = true → b = true) := by decide
  simp [Collisions.le, Collisions.latches, hi, and_assoc, -Bool.or_eq_true]

theorem Collisions.le_refl (c : Collisions) : c.le c = true :=
  (le_iff c c).mpr fun _ _ h => h

theorem Collisions.le_trans {c d e : Collisions} (h : c.le d = true) (g : d.le e = true) : c.le e = true := by
  rw [le_iff] at *
  exact fun f hf hc => g f hf (h f hf hc)

/-- A chip-cycle only sets latches (rule R410). -/
theorem Collisions.le_collide (o : Active) (c : Collisions) : c.le (collide o c) = true := by
  simp +contextual [Collisions.le_iff, Collisions.latches, collide]

theorem columnOf_blank {b : Beam} (h : b.hcount.val < 68 ∨ (b.hmoveBlank = true ∧ b.hcount.val < 76)) :
    columnOf b = none := by
  unfold columnOf
  rcases h with h | ⟨hb, hc⟩
  · exact if_pos h
  · rw [hb, Bool.true_and, if_pos (decide_eq_true (by omega)), ite_self]

theorem columnOf_drawn {b : Beam} (hc : 68 ≤ b.hcount.val) (hb : ¬(b.hmoveBlank = true ∧ b.hcount.val < 76)) :
    columnOf b = some (b.hcount.val - 68) := by
  unfold columnOf
  rw [if_neg (by omega), if_neg]
  simp only [Bool.and_eq_true, decide_eq_true_eq]
  exact fun h => hb ⟨h.1, by omega⟩

/-- The latching of the inputs touches nothing else, so it plays no part in what is drawn. -/
theorem latchInputs_eq (inp : Inputs) (t : Tia) :
    latchInputs inp t = { t with latch := (latchInputs inp t).latch } := by
  unfold latchInputs
  split <;> rfl

theorem drawPixel_cx_drawn {t : Tia} {x : Nat} (h : columnOf t.beam = some x) (par : Params) :
    (drawPixel par t).1.cx = if collides par t then collide (activeAt t x) t.cx else t.cx := by
  rw [drawPixel, h]
  dsimp only
  split <;> rfl

theorem drawPixel_cx_blank {t : Tia} (h : columnOf t.beam = none) (par : Params) : (drawPixel par t).1.cx = t.cx := by
  rw [drawPixel, h]

/-- The collision latches after a chip-cycle that draws a column (rules R365, R410). -/
theorem tiaClock_cx_drawn {t : Tia} {x : Nat} (h : columnOf t.beam = some x) (par : Params) (inp : Inputs) :
    (tiaClock par inp t).1.cx = if collides par t then collide (activeAt t x) t.cx else t.cx := by
  rw [tiaClock_cx, latchInputs_eq]
  exact drawPixel_cx_drawn (t := { t with latch := (latchInputs inp t).latch }) h par

theorem tiaClock_cx_blank {t : Tia} (h : columnOf t.beam = none) (par : Params) (inp : Inputs) :
    (tiaClock par inp t).1.cx = t.cx := by
  rw [tiaClock_cx, latchInputs_eq]
  exact drawPixel_cx_blank (t := { t with latch := (latchInputs inp t).latch }) h par

theorem tiaClock_cx_le (par : Params) (inp : Inputs) (t : Tia) : t.cx.le (tiaClock par inp t).1.cx = true := by
  cases h : columnOf t.beam with
  | none => rw [tiaClock_cx_blank h]; exact t.cx.le_refl
  | some x =>
    rw [tiaClock_cx_drawn h]
    split
    · exact Collisions.le_collide _ _
    · exact t.cx.le_refl

theorem runTia_cx_le (par : Params) (inp : Inputs) (n : Nat) (t : Tia) : t.cx.le (runTia par inp n t).cx = true := by
  induction n generalizing t with
  | zero => exact t.cx.le_refl
  | succ n ih => exact Collisions.le_trans (tiaClock_cx_le par inp t) (ih _)

/-- CXCLR alone writes the collision latches (rule R412). -/
theorem tiaStore_cx {reg : BitVec 6} (h : reg ≠ 0x2C) (m : Nat) (v : Byte) (t : Tia) :
    (tiaStore m reg v t).cx = t.cx := by
  unfold tiaStore
  split
  case h_3 => unfold strobeWsync; split <;> rfl
  case h_44 hr => exact absurd (BitVec.eq_of_toNat_eq hr) h
  all_goals rfl

theorem advanceChips_cx_le (s : State) : s.tia.cx.le (advanceChips s).tia.cx = true := by
  rw [advanceChips_runTia]
  exact runTia_cx_le _ _ 3 _

theorem rd_cx_le (a : Word) (s : State) : s.tia.cx.le (rd a s).2.tia.cx = true := by
  rw [rd_tia]
  have hh : s.tia.cx.le (hold s).tia.cx = true :=
    hold_induct (p := fun u => s.tia.cx.le u.tia.cx = true) (fun u h => Collisions.le_trans h (advanceChips_cx_le u))
      s.tia.cx.le_refl
  exact Collisions.le_trans hh (advanceChips_cx_le _)

theorem wr_cx_le {a : Word} (h : decodeBus (busAddr a) ≠ .tia 0x2C) (v : Byte) (s : State) :
    s.tia.cx.le (wr a v s).tia.cx = true := by
  have hc := runTia_cx_le s.par s.inp 3 s.tia
  cases hd : decodeBus (busAddr a) with
  | tia reg => rwa [wr_tia v s hd, tiaStore_cx fun e => h (hd.trans (by rw [e]))]
  | cartridge off | ram k | riot sel => rwa [wr_runTia_elsewhere v s (by simp [hd])]

/-- Settles O55: each bus cycle but a write to CXCLR only sets latches; a chip-cycle by whether it draws a column. -/
theorem collisionsOnlyWidenUntilCleared : Obligations.CollisionsOnlyWidenUntilCleared := by
  unfold Obligations.CollisionsOnlyWidenUntilCleared
  refine ⟨fun s addr v hd => by rw [wr_tia v s hd]; rfl, fun i s t _ he hl => ?_, fun par inp t hc hb hv => ?_,
    fun par inp t h => ?_⟩
  · rcases exec_next_cases he with rfl | ⟨-, -, c, rfl⟩
    · exact s.tia.cx.le_refl
    · exact busCycles_induct (p := fun u => s.tia.cx.le u.tia.cx = true) _
        (fun a u _ h => Collisions.le_trans h (rd_cx_le a u))
        (fun a v u hm h => Collisions.le_trans h (wr_cx_le (hl a v hm) v u)) s.tia.cx.le_refl
  · have hcol : collides par t = true := by simpa [collides] using hv
    dsimp only
    rw [tiaClock_cx_drawn (columnOf_drawn hc hb), if_pos hcol]
    exact ⟨rfl, rfl, rfl, rfl, rfl, rfl, rfl, rfl, rfl, rfl, rfl, rfl, rfl, rfl, rfl⟩
  · by_cases hb : t.beam.hcount.val < 68 ∨ (t.beam.hmoveBlank = true ∧ t.beam.hcount.val < 76)
    · exact tiaClock_cx_blank (columnOf_blank hb) par inp
    · obtain ⟨hv, hp⟩ : t.sync.vblank = true ∧ par.collideInVblank = false := by tauto
      cases hc : columnOf t.beam with
      | none => exact tiaClock_cx_blank hc par inp
      | some x => rw [tiaClock_cx_drawn hc, if_neg (by simp [collides, hv, hp])]

end Sys2Proof.Machine
end

section
/-!
PROOF. Cycle costs: the length of the cycle list of every documented instruction, and the count of a list of bus cycles
with and without a hold (rules R27, R63, R145, R158, R372).
-/

namespace Sys2Proof.Machine

/-! ### The lengths of the cycle lists, by addressing mode (rules R147 to R157) -/

@[simp] theorem fetches_length (n : Nat) (pc : Word) : (fetches n pc).length = n := by
  induction n generalizing pc with
  | zero => rfl
  | succ n ih => rw [fetches, List.length_cons, ih]

/-- The number of cycles before the access of class write or rmw. -/
def addressLength : Mode → Nat
  | .imp | .acc => 1
  | .imm | .zp | .rel => 2
  | .zpx | .zpy | .abs | .ind => 3
  | .abx | .aby => 4
  | .izx | .izy => 5

/-- The number of cycles of class read where the index does not cross a page. -/
def readLength : Mode → Nat
  | .imp | .acc | .imm => 2
  | .zp | .rel => 3
  | .zpx | .zpy | .abs | .abx | .aby | .ind => 4
  | .izy => 5
  | .izx => 6

theorem addressCycles_length (f : Form) (s : State) : (f.addressCycles s).length = addressLength f.mode := by
  unfold Form.addressCycles Form.leadCycles
  cases f.mode <;> simp [addressLength]

theorem writeCycles_length (f : Form) (v : Byte) (s : State) :
    (f.writeCycles v s).length = addressLength f.mode + 1 := by
  simp [Form.writeCycles, addressCycles_length]

theorem rmwCycles_length (f : Form) (r : Byte) (s : State) :
    (f.rmwCycles r s).length = addressLength f.mode + 3 := by
  simp [Form.rmwCycles, addressCycles_length]

/-- An indexed read takes one cycle more where it crosses a page. -/
theorem readCycles_length (f : Form) (s : State) :
    (f.readCycles s).length = readLength f.mode + (f.crosses s).toNat := by
  have hc : (if f.crosses s = true then [BusCycle.read (f.effAddr s)] else []).length = (f.crosses s).toNat := by
    cases f.crosses s <;> rfl
  have hi : f.mode = .imm → f.crosses s = false := fun h => by simp [Form.crosses, Form.partialAddr, h]
  unfold Form.readCycles Form.leadCycles
  cases hm : f.mode with
  | imm => simp [hi hm, readLength]
  | imp | acc | zp | zpx | zpy | abs | abx | aby | izx | izy | rel | ind => simp [hc, readLength]; omega

theorem branchCycles_length (taken : Bool) (d : Byte) (s : State) :
    (branchCycles taken d s).length =
      2 + if taken then 1 + (decide (hiByte (s.cpu.pc + 2 + sext d) ≠ hiByte (s.cpu.pc + 2))).toNat else 0 := by
  simp only [branchCycles]
  generalize s.cpu.pc + 2 = next
  cases taken with
  | false => simp
  | true => by_cases h : hiByte (next + sext d) = hiByte next <;> simp [h]

/-- The cycle list of a documented instruction is that of its mnemonic, under every policy. -/
theorem cycleList_documented {i : Instr} (h : i.form.name.documented = true) (s : State) :
    i.cycleList s = i.form.ownCycles s := by
  simp [Instr.cycleList, Instr.unsupported, h]

section classes

variable {i : Instr} {s : State}

theorem length_read (hl : i.form.ownCycles s = i.form.readCycles s) (hc : i.form.cycles = readLength i.form.mode)
    (hp : i.penalty s = (i.form.crosses s).toNat) : (i.form.ownCycles s).length = i.form.cycles + i.penalty s := by
  rw [hl, readCycles_length, hc, hp]

theorem length_write {v : Byte} (hl : i.form.ownCycles s = i.form.writeCycles v s)
    (hc : i.form.cycles = addressLength i.form.mode + 1) (hp : i.penalty s = 0) :
    (i.form.ownCycles s).length = i.form.cycles + i.penalty s := by
  rw [hl, writeCycles_length, hc, hp]

theorem length_rmw {r : Byte} (hl : i.form.ownCycles s = i.form.rmwCycles r s)
    (hc : i.form.cycles = addressLength i.form.mode + 3) (hp : i.penalty s = 0) :
    (i.form.ownCycles s).length = i.form.cycles + i.penalty s := by
  rw [hl, rmwCycles_length, hc, hp]

end classes

/-- The cycle list has the cycles of the row and its adjustment (rules R145, R158): one case for each operand class. -/
theorem ownCycles_length (i : Instr) (s : State) (hd : i.form.name.documented = true) :
    (i.form.ownCycles s).length = i.form.cycles + i.penalty s := by
  cases i with
  -- class read
  | oraImm | andImm | eorImm | adcImm | ldyImm | ldxImm | ldaImm | cpyImm | cmpImm | cpxImm | sbcImm
  | oraZp | bitZp | andZp | eorZp | adcZp | ldyZp | ldaZp | ldxZp | cpyZp | cmpZp | cpxZp | sbcZp
  | oraZpX | andZpX | eorZpX | adcZpX | ldyZpX | ldaZpX | cmpZpX | sbcZpX | ldxZpY
  | oraAbs | bitAbs | andAbs | eorAbs | adcAbs | ldyAbs | ldaAbs | ldxAbs | cpyAbs | cmpAbs | cpxAbs | sbcAbs
  | oraAbsX | andAbsX | eorAbsX | adcAbsX | ldyAbsX | ldaAbsX | cmpAbsX | sbcAbsX
  | oraAbsY | andAbsY | eorAbsY | adcAbsY | ldaAbsY | ldxAbsY | cmpAbsY | sbcAbsY
  | oraIzX | andIzX | eorIzX | adcIzX | ldaIzX | cmpIzX | sbcIzX
  | oraIzY | andIzY | eorIzY | adcIzY | ldaIzY | cmpIzY | sbcIzY => exact length_read rfl rfl rfl
  -- class write
  | styZp | staZp | stxZp | styZpX | staZpX | stxZpY | styAbs | staAbs | stxAbs | staAbsX | staAbsY | staIzX
  | staIzY => exact length_write rfl rfl rfl
  -- class rmw
  | aslZp | rolZp | lsrZp | rorZp | decZp | incZp | aslZpX | rolZpX | lsrZpX | rorZpX | decZpX | incZpX
  | aslAbs | rolAbs | lsrAbs | rorAbs | decAbs | incAbs | aslAbsX | rolAbsX | lsrAbsX | rorAbsX | decAbsX
  | incAbsX => exact length_rmw rfl rfl rfl
  | bpl | bmi | bvc | bvs | bcc | bcs | bne | beq => exact branchCycles_length _ _ s
  -- lists of fixed length
  | aslAcc | rolAcc | lsrAcc | rorAcc | clc | sec | cli | sei | dey | txa | tya | txs | tay | tax | clv | tsx | iny
  | dex | cld | inx | nop | sed | jmpAbs | jmpInd | jsr | rts | pha | php | pla | plp | brk | rti => rfl
  | _ => cases hd

/-! ### The cycle counter -/

/-- Every bus cycle counts at least once; a held read counts the cycles of its hold too (rule R63). -/
theorem busCycle_cyc_le (c : BusCycle) (s : State) : s.cyc + 1 ≤ (busCycle c s).cyc := by
  cases c with
  | read a =>
    have h : s.cyc ≤ (hold s).cyc :=
      hold_induct (p := fun u => s.cyc ≤ u.cyc) (fun u hu => by rw [advanceChips_cyc]; omega) (Nat.le_refl _)
    rw [busCycle, rd_cyc]
    omega
  | write a v => exact (wr_cyc a v s).ge

theorem busCycles_cyc_le (l : List BusCycle) (s : State) : s.cyc + l.length ≤ (busCycles l s).cyc := by
  induction l generalizing s with
  | nil => exact Nat.le_refl _
  | cons c rest ih =>
    have h := busCycle_cyc_le c s
    have hr := ih (busCycle c s)
    rw [busCycles, List.length_cons]
    omega

theorem runTia_wsync_free {t : Tia} (h : t.beam.wsync = false) (par : Params) (inp : Inputs) (n : Nat) :
    (runTia par inp n t).beam.wsync = false := by
  induction n with
  | zero => exact h
  | succ n ih => rw [runTia_succ, tiaClock_wsync, ih, Bool.false_and]

/-- Only the WSYNC strobe sets the hold (rule R372). -/
theorem tiaStore_wsync {reg : BitVec 6} (h : reg ≠ 0x02) (m : Nat) (v : Byte) (t : Tia) :
    (tiaStore m reg v t).beam.wsync = t.beam.wsync := by
  unfold tiaStore
  split
  case h_1 => exact (writeVsync_beam v t).2
  case h_3 hr => exact absurd (BitVec.eq_of_toNat_eq hr) h
  all_goals rfl

/-- A bus cycle of a free machine that is no strobe of WSYNC counts once and leaves the machine free. -/
theorem busCycle_free {c : BusCycle} {s : State} (hs : s.tia.beam.wsync = false)
    (hc : ∀ a v, c = .write a v → decodeBus (busAddr a) ≠ .tia 0x02) :
    (busCycle c s).cyc = s.cyc + 1 ∧ (busCycle c s).tia.beam.wsync = false := by
  have ht := runTia_wsync_free hs s.par s.inp 3
  cases c with
  | read a =>
    rw [busCycle, rd_cyc, rd_runTia, hold_of_free hs]
    exact ⟨rfl, ht⟩
  | write a v =>
    refine ⟨wr_cyc a v s, ?_⟩
    rw [busCycle]
    cases hd : decodeBus (busAddr a) with
    | tia reg =>
      have hr : reg ≠ 0x02 := fun e => hc a v rfl (by rw [hd, e])
      rw [wr_tia v s hd, tiaStore_wsync hr, ht]
    | cartridge off | ram k | riot sel => rw [wr_runTia_elsewhere v s (by simp [hd]), ht]

theorem busCycles_cyc_free (l : List BusCycle) {s : State} (hs : s.tia.beam.wsync = false)
    (hl : ∀ a v, .write a v ∈ l → decodeBus (busAddr a) ≠ .tia 0x02) :
    (busCycles l s).cyc = s.cyc + l.length := by
  induction l generalizing s with
  | nil => rfl
  | cons c rest ih =>
    obtain ⟨hc, hw⟩ := busCycle_free hs fun a v e => hl a v (e ▸ List.mem_cons_self)
    rw [busCycles, ih hw fun a v m => hl a v (List.mem_cons_of_mem _ m), hc, List.length_cons]
    omega

/-- Settles O42: the length by operand class, the count by the list's cycles. -/
theorem documentedCycleCost : Obligations.DocumentedCycleCost := by
  unfold Obligations.DocumentedCycleCost
  intro i s t _ hd
  refine ⟨by rw [cycleList_documented hd, ownCycles_length i s hd], fun he hf => ?_⟩
  rcases exec_next_cases he with rfl | ⟨-, -, c, rfl⟩
  · cases hf
  · exact ⟨busCycles_cyc_le _ s, fun hs hl => busCycles_cyc_free _ hs hl⟩

end Sys2Proof.Machine
end

section
/-!
PROOF. The register frame: no documented instruction writes a register or a flag that tables S-1 and S-2 do not give it
(rules R21, R22, R25).
-/

namespace Sys2Proof.Machine

/-- From the registers `c` to the registers `d` a mnemonic in a mode changes only what tables S-1 and S-2 give it (rules
R21, R22, R25). -/
structure KeepsFrame (n : Mnemonic) (m : Mode) (c d : Cpu) : Prop where
  a : n ∉ [Mnemonic.lda, .pla, .txa, .tya, .adc, .sbc, .and, .ora, .eor] →
    ¬(n ∈ [Mnemonic.asl, .lsr, .rol, .ror] ∧ m = .acc) → d.a = c.a
  x : n ∉ [Mnemonic.ldx, .tax, .tsx, .inx, .dex] → d.x = c.x
  y : n ∉ [Mnemonic.ldy, .tay, .iny, .dey] → d.y = c.y
  sp : n ∉ [Mnemonic.txs, .pha, .php, .pla, .plp, .jsr, .rts, .rti, .brk] → d.sp = c.sp
  carry : n ∉ [Mnemonic.adc, .sbc, .cmp, .cpx, .cpy, .asl, .lsr, .rol, .ror, .clc, .sec, .plp, .rti] → d.p.c = c.p.c
  zeroNegative : n ∉ [Mnemonic.lda, .ldx, .ldy, .tax, .tay, .txa, .tya, .tsx, .pla, .adc, .sbc, .and, .ora, .eor, .cmp,
    .cpx, .cpy, .bit, .inc, .dec, .inx, .iny, .dex, .dey, .asl, .lsr, .rol, .ror, .plp, .rti] →
    d.p.z = c.p.z ∧ d.p.n = c.p.n
  interrupt : n ∉ [Mnemonic.sei, .cli, .brk, .plp, .rti] → d.p.i = c.p.i
  decimal : n ∉ [Mnemonic.sed, .cld, .plp, .rti] → d.p.d = c.p.d
  overflow : n ∉ [Mnemonic.adc, .sbc, .bit, .clv, .plp, .rti] → d.p.v = c.p.v

/-- A mnemonic may always write `PC` (rule R23). -/
theorem keepsFrame_pc (n : Mnemonic) (m : Mode) (c : Cpu) (w : Word) : KeepsFrame n m c { c with pc := w } := by
  constructor
  case zeroNegative => exact fun _ => ⟨rfl, rfl⟩
  all_goals intros; rfl

/-- The stack instructions may write `S` (rule R22). -/
theorem keepsFrame_sp {n : Mnemonic} (hn : [Mnemonic.pha, .php, .jsr, .rts].contains n = true) (m : Mode) (c : Cpu)
    (v : Byte) (w : Word) : KeepsFrame n m c { c with sp := v, pc := w } := by
  simp only [List.contains_iff_mem, List.mem_cons, List.not_mem_nil, or_false] at hn
  rcases hn with rfl | rfl | rfl | rfl <;> constructor <;> simp

/-- PLP and RTI may write `S` and every flag (rules R22, R25). -/
theorem keepsFrame_flags {n : Mnemonic} (hn : [Mnemonic.plp, .rti].contains n = true) (m : Mode) (c : Cpu) (v : Byte)
    (p : Flags) (w : Word) : KeepsFrame n m c { c with sp := v, p := p, pc := w } := by
  simp only [List.contains_iff_mem, List.mem_cons, List.not_mem_nil, or_false] at hn
  rcases hn with rfl | rfl <;> constructor <;> simp

/-- BRK may write `S` and I (rules R22, R25). -/
theorem keepsFrame_brk (m : Mode) (c : Cpu) (v : Byte) (w : Word) :
    KeepsFrame .brk m c { c with sp := v, p := { c.p with i := true }, pc := w } := by
  constructor <;> simp

/-! ### The flags that the operations leave alone -/

@[simp] theorem setNZ_c (v : Byte) (p : Flags) : (setNZ v p).c = p.c := rfl

@[simp] theorem setNZ_i (v : Byte) (p : Flags) : (setNZ v p).i = p.i := rfl

@[simp] theorem setNZ_d (v : Byte) (p : Flags) : (setNZ v p).d = p.d := rfl

@[simp] theorem setNZ_v (v : Byte) (p : Flags) : (setNZ v p).v = p.v := rfl

/-- ADC leaves I and D, in binary and in decimal (rules R201, R203). -/
@[simp] theorem addWithCarry_i (par : Params) (a m : Byte) (p : Flags) : (addWithCarry par a m p).p.i = p.i := by
  unfold addWithCarry
  split <;> rfl

@[simp] theorem addWithCarry_d (par : Params) (a m : Byte) (p : Flags) : (addWithCarry par a m p).p.d = p.d := by
  unfold addWithCarry
  split <;> rfl

@[simp] theorem subWithBorrow_i (par : Params) (a m : Byte) (p : Flags) : (subWithBorrow par a m p).p.i = p.i := by
  unfold subWithBorrow
  split <;> rfl

@[simp] theorem subWithBorrow_d (par : Params) (a m : Byte) (p : Flags) : (subWithBorrow par a m p).p.d = p.d := by
  unfold subWithBorrow
  split <;> rfl

/-! ### The operand classes -/

section classes

variable {f : Form} {s : State}

/-- Class read: the operation on the operand. -/
theorem keepsFrame_operandOp {n : Mnemonic} (hd : n.documented = true) (m : Mode) {r : Byte × State} {c : Cpu}
    {w : Word} (hr : r.2.cpu = { c with pc := w }) : KeepsFrame n m c (n.operandOp r).cpu := by
  cases n with
  | lda => constructor <;> simp [Mnemonic.operandOp, loadA, State.setNZ, hr]
  | ldx => constructor <;> simp [Mnemonic.operandOp, loadX, State.setNZ, hr]
  | ldy => constructor <;> simp [Mnemonic.operandOp, loadY, State.setNZ, hr]
  | adc => constructor <;> simp [Mnemonic.operandOp, adc, State.setAlu, hr]
  | sbc => constructor <;> simp [Mnemonic.operandOp, sbc, State.setAlu, hr]
  | and => constructor <;> simp [Mnemonic.operandOp, andA, State.setLogic, State.setNZ, hr]
  | ora => constructor <;> simp [Mnemonic.operandOp, oraA, State.setLogic, State.setNZ, hr]
  | eor => constructor <;> simp [Mnemonic.operandOp, eorA, State.setLogic, State.setNZ, hr]
  | cmp => constructor <;> simp [Mnemonic.operandOp, cmpA, compareFlags, hr]
  | cpx => constructor <;> simp [Mnemonic.operandOp, cmpX, compareFlags, hr]
  | cpy => constructor <;> simp [Mnemonic.operandOp, cmpY, compareFlags, hr]
  | bit => constructor <;> simp [Mnemonic.operandOp, testBits, bitTest, hr]
  | rra | usbc | isc | rla | slo | sre | dcp | lax | las | anc | alr | arr | sbx => cases hd
  | _ => exact hr ▸ keepsFrame_pc _ m c w

theorem keepsFrame_read (hd : f.name.documented = true) {r : Byte × State} {l : List BusCycle}
    (hr : r = (f.operand s, (busCycles l s).setCpu { s.cpu with pc := f.nextPc s })) :
    KeepsFrame f.name f.mode s.cpu (f.name.operandOp r).cpu :=
  keepsFrame_operandOp hd f.mode (by rw [hr]; rfl)

/-- Class write changes no register. -/
theorem keepsFrame_write (v : Byte) {e : Word × State}
    (he : e = (f.effAddr s, (busCycles (f.addressCycles s) s).setCpu { s.cpu with pc := f.nextPc s })) :
    KeepsFrame f.name f.mode s.cpu (storeAt v e).cpu := by
  rw [storeAt_cycles f s v he]
  exact keepsFrame_pc _ _ _ _

/-- Class rmw changes the flags of its operation. -/
theorem keepsFrame_rmw {e : Word × State} (hn : [Mnemonic.asl, .lsr, .rol, .ror, .inc, .dec].contains f.name = true)
    (he : e = (f.effAddr s, (busCycles (f.addressCycles s) s).setCpu { s.cpu with pc := f.nextPc s })) :
    KeepsFrame f.name f.mode s.cpu (modifyAt f.name.alu e).2.cpu := by
  rw [modifyAt_cycles f s _ he, State.setCpu_cpu]
  generalize f.rmwOperand s = v
  generalize f.name = n at hn
  simp only [List.contains_iff_mem, List.mem_cons, List.not_mem_nil, or_false] at hn
  rcases hn with rfl | rfl | rfl | rfl | rfl | rfl
  · constructor <;> simp [Mnemonic.alu, shiftLeft]
  · constructor <;> simp [Mnemonic.alu, shiftRight]
  · constructor <;> simp [Mnemonic.alu, rotateLeft]
  · constructor <;> simp [Mnemonic.alu, rotateRight]
  · constructor <;> simp [Mnemonic.alu, increment]
  · constructor <;> simp [Mnemonic.alu, decrement]

/-- The accumulator's shifts change `A` and the flags of their operation (rules R217 to R220). -/
theorem keepsFrame_shiftA {n : Mnemonic} (hn : [Mnemonic.asl, .lsr, .rol, .ror].contains n = true) :
    KeepsFrame n .acc s.cpu (modifyA n.alu (impliedCycles s)).cpu := by
  rw [impliedCycles_cycles]
  simp only [List.contains_iff_mem, List.mem_cons, List.not_mem_nil, or_false] at hn
  rcases hn with rfl | rfl | rfl | rfl
  · constructor <;> simp [Mnemonic.alu, modifyA, State.setAlu, shiftLeft]
  · constructor <;> simp [Mnemonic.alu, modifyA, State.setAlu, shiftRight]
  · constructor <;> simp [Mnemonic.alu, modifyA, State.setAlu, rotateLeft]
  · constructor <;> simp [Mnemonic.alu, modifyA, State.setAlu, rotateRight]

end classes

/-- An instruction that completes leaves the registers of its meaning, one that faults those before it. -/
theorem keepsFrame_complete {i : Instr} {s t u : State} {n : Mnemonic} {m : Mode} {op : Byte}
    (h : exec i s = .next t) (hk : KeepsFrame n m s.cpu u.cpu) (he : exec i s = complete op s u) :
    KeepsFrame n m s.cpu t.cpu := by
  rw [he] at h
  by_cases hf : u.fault = none
  · rw [complete_none op s hf] at h
    cases h
    exact hk
  · rw [complete_some op s hf] at h
    cases h
    exact keepsFrame_pc n m s.cpu s.cpu.pc

theorem exec_brk (s : State) : exec .brk s = complete 0x00 s (takeTrap (fetchCycles 2 s)) := rfl

/-- The frame of every documented instruction: one case for each addressing mode of each operand class, and one for each
group with registers of its own. -/
theorem exec_keepsFrame {i : Instr} {s t : State} (hd : i.form.name.documented = true) (h : exec i s = .next t) :
    KeepsFrame i.form.name i.form.mode s.cpu t.cpu := by
  cases i with
  -- class read
  | oraImm b1 | andImm b1 | eorImm b1 | adcImm b1 | ldyImm b1 | ldxImm b1 | ldaImm b1 | cpyImm b1 | cmpImm b1
  | cpxImm b1 | sbcImm b1 => exact keepsFrame_complete h (keepsFrame_read rfl (readImm_cycles _ s rfl)) rfl
  | oraZp b1 | bitZp b1 | andZp b1 | eorZp b1 | adcZp b1 | ldyZp b1 | ldaZp b1 | ldxZp b1 | cpyZp b1 | cmpZp b1
  | cpxZp b1 | sbcZp b1 => exact keepsFrame_complete h (keepsFrame_read rfl (readZp_cycles _ s rfl)) rfl
  | oraZpX b1 | andZpX b1 | eorZpX b1 | adcZpX b1 | ldyZpX b1 | ldaZpX b1 | cmpZpX b1 | sbcZpX b1 =>
    exact keepsFrame_complete h (keepsFrame_read rfl (readZpX_cycles _ s rfl)) rfl
  | ldxZpY b1 => exact keepsFrame_complete h (keepsFrame_read rfl (readZpY_cycles _ s rfl)) rfl
  | oraAbs lo hi | bitAbs lo hi | andAbs lo hi | eorAbs lo hi | adcAbs lo hi | ldyAbs lo hi | ldaAbs lo hi
  | ldxAbs lo hi | cpyAbs lo hi | cmpAbs lo hi | cpxAbs lo hi | sbcAbs lo hi =>
    exact keepsFrame_complete h (keepsFrame_read rfl (readAbs_cycles _ s rfl)) rfl
  | oraAbsX lo hi | andAbsX lo hi | eorAbsX lo hi | adcAbsX lo hi | ldyAbsX lo hi | ldaAbsX lo hi | cmpAbsX lo hi
  | sbcAbsX lo hi => exact keepsFrame_complete h (keepsFrame_read rfl (readAbsX_cycles _ s rfl)) rfl
  | oraAbsY lo hi | andAbsY lo hi | eorAbsY lo hi | adcAbsY lo hi | ldaAbsY lo hi | ldxAbsY lo hi | cmpAbsY lo hi
  | sbcAbsY lo hi => exact keepsFrame_complete h (keepsFrame_read rfl (readAbsY_cycles _ s rfl)) rfl
  | oraIzX b1 | andIzX b1 | eorIzX b1 | adcIzX b1 | ldaIzX b1 | cmpIzX b1 | sbcIzX b1 =>
    exact keepsFrame_complete h (keepsFrame_read rfl (readIzX_cycles _ s rfl)) rfl
  | oraIzY b1 | andIzY b1 | eorIzY b1 | adcIzY b1 | ldaIzY b1 | cmpIzY b1 | sbcIzY b1 =>
    exact keepsFrame_complete h (keepsFrame_read rfl (readIzY_cycles _ s rfl)) rfl
  -- class write
  | styZp b1 | staZp b1 | stxZp b1 => exact keepsFrame_complete h (keepsFrame_write _ (addrZp_cycles _ s rfl)) rfl
  | styZpX b1 | staZpX b1 => exact keepsFrame_complete h (keepsFrame_write _ (addrZpX_cycles _ s rfl)) rfl
  | stxZpY b1 => exact keepsFrame_complete h (keepsFrame_write _ (addrZpY_cycles _ s rfl)) rfl
  | styAbs lo hi | staAbs lo hi | stxAbs lo hi =>
    exact keepsFrame_complete h (keepsFrame_write _ (addrAbs_cycles _ s rfl)) rfl
  | staAbsX lo hi => exact keepsFrame_complete h (keepsFrame_write _ (addrAbsX_cycles _ s rfl)) rfl
  | staAbsY lo hi => exact keepsFrame_complete h (keepsFrame_write _ (addrAbsY_cycles _ s rfl)) rfl
  | staIzX b1 => exact keepsFrame_complete h (keepsFrame_write _ (addrIzX_cycles _ s rfl)) rfl
  | staIzY b1 => exact keepsFrame_complete h (keepsFrame_write _ (addrIzY_cycles _ s rfl)) rfl
  -- class rmw
  | aslZp b1 | rolZp b1 | lsrZp b1 | rorZp b1 | decZp b1 | incZp b1 =>
    exact keepsFrame_complete h (keepsFrame_rmw rfl (addrZp_cycles _ s rfl)) rfl
  | aslZpX b1 | rolZpX b1 | lsrZpX b1 | rorZpX b1 | decZpX b1 | incZpX b1 =>
    exact keepsFrame_complete h (keepsFrame_rmw rfl (addrZpX_cycles _ s rfl)) rfl
  | aslAbs lo hi | rolAbs lo hi | lsrAbs lo hi | rorAbs lo hi | decAbs lo hi | incAbs lo hi =>
    exact keepsFrame_complete h (keepsFrame_rmw rfl (addrAbs_cycles _ s rfl)) rfl
  | aslAbsX lo hi | rolAbsX lo hi | lsrAbsX lo hi | rorAbsX lo hi | decAbsX lo hi | incAbsX lo hi =>
    exact keepsFrame_complete h (keepsFrame_rmw rfl (addrAbsX_cycles _ s rfl)) rfl
  -- modes `imp` and `acc`
  | aslAcc | rolAcc | lsrAcc | rorAcc => exact keepsFrame_complete h (keepsFrame_shiftA rfl) rfl
  | clc | sec | cli | sei | cld | sed | clv | nop | tax | tay | txa | tya | tsx | txs | inx | iny | dex | dey =>
    refine keepsFrame_complete h ?_ rfl
    rw [impliedCycles_cycles]
    constructor <;> simp [State.setNZ, Instr.form]
  -- branches, jumps, the stack and traps
  | bpl d | bmi d | bvc d | bvs d | bcc d | bcs d | bne d | beq d =>
    exact keepsFrame_complete h (branch_cycles _ d s ▸ keepsFrame_pc _ _ _ _) rfl
  | jmpAbs lo hi =>
    refine keepsFrame_complete h ?_ rfl
    rw [fetchCycles_cycles]
    exact keepsFrame_pc _ _ _ _
  | jmpInd lo hi =>
    refine keepsFrame_complete h ?_ rfl
    rw [jumpIndirect_cycles]
    exact keepsFrame_pc _ _ _ _
  | jsr lo hi =>
    refine keepsFrame_complete h ?_ rfl
    rw [fetchCycles_cycles, callCycles_cycles, idleCycle_cycles]
    exact keepsFrame_sp rfl _ _ _ _
  | rts =>
    refine keepsFrame_complete h ?_ rfl
    rw [returnFromCall_cycles]
    exact keepsFrame_sp rfl _ _ _ _
  | pha | php =>
    refine keepsFrame_complete h ?_ rfl
    rw [impliedCycles_cycles, push_cycles]
    exact keepsFrame_sp rfl _ _ _ _
  | pla =>
    refine keepsFrame_complete h ?_ rfl
    rw [impliedCycles_cycles, stackIdle_cycles, pull_cycles]
    constructor <;> simp [loadA, State.setNZ, Instr.form]
  | plp =>
    refine keepsFrame_complete h ?_ rfl
    rw [pullFlags_cycles]
    exact keepsFrame_flags rfl _ _ _ _ _
  | rti =>
    refine keepsFrame_complete h ?_ rfl
    rw [returnFromTrap_cycles]
    exact keepsFrame_flags rfl _ _ _ _ _
  | brk =>
    refine keepsFrame_complete h ?_ (exec_brk s)
    rw [takeTrap_cycles]
    exact keepsFrame_brk _ _ _ _
  | _ => cases hd

/-- Settles O43: the frame of tables S-1 and S-2 holds of every documented instruction. -/
theorem onlyTheNamedRegistersAndFlagsChange : Obligations.OnlyTheNamedRegistersAndFlagsChange := by
  unfold Obligations.OnlyTheNamedRegistersAndFlagsChange
  intro i s t hd h
  obtain ⟨ha, hx, hy, hsp, hc, hzn, hi, hdec, hv⟩ := exec_keepsFrame hd h
  exact ⟨ha, hx, hy, hsp, hc, hzn, hi, hdec, hv⟩

end Sys2Proof.Machine
end

section
/-!
PROOF. What no program observes: two states that differ only in the counters, colours, audio generators, output history
and the parameters only these use give the same bytes on the bus, and stay such a pair in every step (rules R27, R36,
R311, R361, R366, R410, R442, R446).
-/

namespace Sys2Proof.Machine

/-! ### The TIA without what no program observes -/

/-- The part of the TIA that a program can observe, the rest at 0. -/
def hideTia (t : Tia) : Tia :=
  { t with
    beam := { t.beam with line := 0 }
    sync := { t.sync with vsync := false }
    p0 := { t.p0 with colup := 0 }
    p1 := { t.p1 with colup := 0 }
    pf := { t.pf with colupf := 0, colubk := 0 }
    ch0 := Channel.reset waveReset
    ch1 := Channel.reset waveReset }

/-- The parameters that a program can observe, the rest at fixed values. -/
def hidePar (p : Params) : Params :=
  { p with fbFirstLine := 0, fbLines := 0, audioPhaseA := 0, audioPhaseB := 0, wave := .default }

theorem latchInputs_hide (inp : Inputs) (t : Tia) : hideTia (latchInputs inp t) = latchInputs inp (hideTia t) := by
  unfold latchInputs
  by_cases h : t.sync.latchEn = true
  · rw [if_pos h, if_pos (show (hideTia t).sync.latchEn = true from h)]
    rfl
  · rw [if_neg h, if_neg (show ¬(hideTia t).sync.latchEn = true from h)]

/-- Collisions do not look at colours, lines or sound (rule R410). -/
theorem drawPixel_hide (par : Params) (t : Tia) :
    hideTia (drawPixel par t).1 = (drawPixel (hidePar par) (hideTia t)).1 := by
  have hb : columnOf (hideTia t).beam = columnOf t.beam := rfl
  have hc : collides (hidePar par) (hideTia t) = collides par t := rfl
  unfold drawPixel
  rw [hb]
  cases columnOf t.beam with
  | none => rfl
  | some x =>
    simp only [hc]
    split <;> rfl

theorem clockAudio_hide (par : Params) (t : Tia) : hideTia (clockAudio par t).1 = hideTia t := by
  unfold clockAudio
  split <;> rfl

theorem advanceBeam_hide (t : Tia) : hideTia (advanceBeam t).1 = hideTia (advanceBeam (hideTia t)).1 := by
  have hc : (hideTia t).beam.hcount = t.beam.hcount := rfl
  unfold advanceBeam
  rw [hc]
  split <;> rfl

theorem tiaClock_hide (par : Params) (inp : Inputs) (t : Tia) :
    hideTia (tiaClock par inp t).1 =
      hideTia (advanceBeam (drawPixel (hidePar par) (latchInputs inp (hideTia t))).1).1 := by
  unfold tiaClock
  dsimp only
  rw [advanceBeam_hide, clockAudio_hide, drawPixel_hide, latchInputs_hide]

theorem runTia_hide {par par' : Params} {t t' : Tia} (hp : hidePar par = hidePar par') (ht : hideTia t = hideTia t')
    (inp : Inputs) (n : Nat) : hideTia (runTia par inp n t) = hideTia (runTia par' inp n t') := by
  induction n generalizing t t' with
  | zero => exact ht
  | succ n ih => exact ih (by rw [tiaClock_hide, hp, ht, ← tiaClock_hide])

/-- No register write looks at what is hidden but VSYNC, which changes the hidden line only (rule R367). -/
theorem tiaStore_hide (m : Nat) (reg : BitVec 6) (v : Byte) (t : Tia) :
    hideTia (tiaStore m reg v t) = hideTia (tiaStore m reg v (hideTia t)) := by
  unfold tiaStore
  split
  case h_1 => rw [writeVsync_eq v t, writeVsync_eq v (hideTia t)]; rfl
  case h_3 =>
    have hc : (hideTia t).beam.hcount = t.beam.hcount := rfl
    unfold strobeWsync
    rw [hc]
    split <;> rfl
  all_goals rfl

theorem tiaRead_hide (inp : Inputs) (d : Byte) (t : Tia) (reg : BitVec 6) :
    tiaRead inp d t reg = tiaRead inp d (hideTia t) reg := rfl

/-! ### States that a program cannot tell apart -/

/-- The two states agree on everything that a program can observe. -/
structure Alike (s s' : State) : Prop where
  cpu : s.cpu = s'.cpu
  ram : s.ram = s'.ram
  tia : hideTia s.tia = hideTia s'.tia
  riot : s.riot = s'.riot
  map : s.map = s'.map
  dbus : s.dbus = s'.dbus
  fault : s.fault = s'.fault
  par : hidePar s.par = hidePar s'.par
  inp : s.inp = s'.inp
  pending : s.pending = s'.pending

/-- A value and a state from each of two states: the same value, and states that agree. -/
structure AlikeValue {α : Type} (r r' : α × State) : Prop where
  value : r.1 = r'.1
  state : Alike r.2 r'.2

theorem observable_eq (s : State) :
    observable s = { s with cyc := 0, out := [], tia := hideTia s.tia, par := hidePar s.par } := rfl

theorem alike_iff (s s' : State) : Alike s s' ↔ observable s = observable s' := by
  rw [observable_eq, observable_eq, State.mk.injEq]
  constructor
  · rintro ⟨hcpu, hram, htia, hriot, hmap, hdbus, hfault, hpar, hinp, hpending⟩
    exact ⟨hcpu, rfl, hram, htia, hriot, hmap, hdbus, hfault, hpar, hinp, hpending, rfl⟩
  · rintro ⟨hcpu, -, hram, htia, hriot, hmap, hdbus, hfault, hpar, hinp, hpending, -⟩
    exact ⟨hcpu, hram, htia, hriot, hmap, hdbus, hfault, hpar, hinp, hpending⟩

section

variable {s s' : State} (h : Alike s s')

include h

theorem Alike.setCpu {c c' : Cpu} (hc : c = c') : Alike (s.setCpu c) (s'.setCpu c') where
  cpu := hc
  ram := h.ram
  tia := h.tia
  riot := h.riot
  map := h.map
  dbus := h.dbus
  fault := h.fault
  par := h.par
  inp := h.inp
  pending := h.pending

theorem Alike.setPc (w : Word) : Alike (s.setPc w) (s'.setPc w) :=
  h.setCpu (by rw [h.cpu])

theorem Alike.setP (p : Flags) : Alike (s.setP p) (s'.setP p) :=
  h.setCpu (by rw [h.cpu])

theorem Alike.rsyncPolicy : s.par.rsyncPolicy = s'.par.rsyncPolicy :=
  (congrArg Params.rsyncPolicy h.par :)

theorem Alike.illegalPolicy : s.par.illegalPolicy = s'.par.illegalPolicy :=
  (congrArg Params.illegalPolicy h.par :)

theorem Alike.decimalMode : s.par.decimalMode = s'.par.decimalMode :=
  (congrArg Params.decimalMode h.par :)

theorem Alike.hmoveBlankMax : s.par.hmoveBlankMax = s'.par.hmoveBlankMax :=
  (congrArg Params.hmoveBlankMax h.par :)

theorem Alike.wsync : s.tia.beam.wsync = s'.tia.beam.wsync :=
  (congrArg (fun t => t.beam.wsync) h.tia :)

theorem Alike.runTia (n : Nat) :
    hideTia (runTia s.par s.inp n s.tia) = hideTia (Machine.runTia s'.par s'.inp n s'.tia) := by
  rw [h.inp]
  exact runTia_hide h.par h.tia _ n

/-! ### Bus cycles -/

theorem Alike.advanceChips : Alike (advanceChips s) (advanceChips s') where
  cpu := by simpa using h.cpu
  ram := by simpa using h.ram
  tia := by rw [advanceChips_runTia, advanceChips_runTia]; exact h.runTia 3
  riot := by simp [h.riot]
  map := by simpa using h.map
  dbus := by simpa using h.dbus
  fault := by simpa using h.fault
  par := by simpa using h.par
  inp := by simpa using h.inp
  pending := by simpa using h.pending

/-- Both machines are held for as long. -/
theorem Alike.holdFor (n : Nat) : Alike (holdFor n s) (holdFor n s') := by
  induction n generalizing s s' with
  | zero => exact h
  | succ n ih =>
    unfold Machine.holdFor
    rw [h.wsync]
    split
    · exact ih h.advanceChips
    · exact h

theorem Alike.hold : Alike (hold s) (hold s') := h.holdFor 76

/-- Both machines read the same byte. -/
theorem Alike.rd (a : Word) : AlikeValue (rd a s) (rd a s') := by
  have hh := h.hold
  have ha := hh.advanceChips
  have ht := hh.runTia 3
  rw [hold_par, hold_inp, hold_par, hold_inp] at ht
  have hv : (Machine.rd a s).1 = (Machine.rd a s').1 := by
    rw [rd_value, rd_value]
    cases decodeBus (busAddr a) with
    | cartridge off => simp only [h.dbus, h.map]
    | tia reg =>
      dsimp only
      rw [tiaRead_hide, ht, ← tiaRead_hide, h.inp, h.dbus]
    | ram k => simp only [h.ram]
    | riot sel => simp only [h.inp, hh.riot]
  refine ⟨hv, ?_, ?_, ?_, ?_, ?_, hv, ?_, ?_, ?_, ?_⟩
  · rw [rd_cpu, rd_cpu, h.cpu]
  · rw [rd_ram, rd_ram, h.ram]
  · rw [rd_tia, rd_tia, ha.tia]
  · rw [rd_riot, rd_riot, ha.riot, h.inp]
  · rw [rd_map, rd_map, h.dbus, h.map]
  · rw [rd_fault, rd_fault, h.fault]
  · rw [rd_par, rd_par, h.par]
  · rw [rd_inp, rd_inp, h.inp]
  · rw [rd_pending, rd_pending, h.pending]

omit h in
/-- The record that an RSYNC write leaves does not depend on the state (rule R373). -/
theorem wr_fault_raised {a : Word} {s : State} (v : Byte) (h : raisesAt a s) :
    (wr a v s).fault = some ⟨0x00, 0x0000⟩ := by
  simp [wr, routeWrite, h.1, writeTia, h.2]

theorem Alike.wr (a : Word) (v : Byte) : Alike (wr a v s) (wr a v s') where
  cpu := by rw [wr_cpu, wr_cpu, h.cpu]
  ram := by rw [wr_ram, wr_ram, h.ram]
  tia := by
    cases hd : decodeBus (busAddr a) with
    | tia reg => rw [wr_tia v s hd, wr_tia v s' hd, tiaStore_hide, h.runTia, ← tiaStore_hide, h.hmoveBlankMax]
    | cartridge off | ram k | riot sel =>
      rw [wr_runTia_elsewhere v s (by simp [hd]), wr_runTia_elsewhere v s' (by simp [hd]), h.runTia]
  riot := by rw [wr_riot, wr_riot, h.riot]
  map := by rw [wr_map, wr_map, h.map]
  dbus := by rw [wr_dbus, wr_dbus]
  fault := by
    have hi : raisesAt a s ↔ raisesAt a s' := by rw [raisesAt, raisesAt, h.rsyncPolicy]
    by_cases hr : raisesAt a s
    · rw [wr_fault_raised v hr, wr_fault_raised v (hi.mp hr)]
    · rw [wr_fault v hr, wr_fault v (mt hi.mpr hr), h.fault]
  par := by rw [wr_par, wr_par, h.par]
  inp := by rw [wr_inp, wr_inp, h.inp]
  pending := by rw [wr_pending, wr_pending, h.pending]

theorem Alike.busCycles (l : List BusCycle) : Alike (busCycles l s) (busCycles l s') := by
  induction l generalizing s s' with
  | nil => exact h
  | cons c rest ih =>
    cases c with
    | read a => exact ih (h.rd a).state
    | write a v => exact ih (h.wr a v)

end

end Sys2Proof.Machine
end

section
/-!
PROOF. The noninterference of every instruction and of the step: the shared operations on two states that a program
cannot tell apart (rules R146 to R158, R174 to R186, R201 to R220, R240 to R263, R280 to R284).
-/

namespace Sys2Proof.Machine

section operations

variable {s s' : State} (h : Alike s s')

include h

/-! ### Addressing modes -/

theorem Alike.fetchCycles (n : Nat) : Alike (fetchCycles n s) (fetchCycles n s') := by
  rw [fetchCycles_cycles, fetchCycles_cycles, h.cpu]
  exact (h.busCycles _).setCpu rfl

theorem Alike.addrZp (b1 : Byte) : AlikeValue (addrZp b1 s) (addrZp b1 s') :=
  ⟨rfl, h.fetchCycles 2⟩

theorem Alike.addrZpIndexed (b1 i : Byte) : AlikeValue (addrZpIndexed b1 i s) (addrZpIndexed b1 i s') :=
  ⟨rfl, ((h.fetchCycles 2).rd _).state⟩

theorem Alike.addrZpX (b1 : Byte) :
    AlikeValue (Machine.addrZpIndexed b1 s.cpu.x s) (Machine.addrZpIndexed b1 s'.cpu.x s') := by
  rw [h.cpu]
  exact h.addrZpIndexed b1 _

theorem Alike.addrZpY (b1 : Byte) :
    AlikeValue (Machine.addrZpIndexed b1 s.cpu.y s) (Machine.addrZpIndexed b1 s'.cpu.y s') := by
  rw [h.cpu]
  exact h.addrZpIndexed b1 _

theorem Alike.addrAbs (lo hi : Byte) : AlikeValue (addrAbs lo hi s) (addrAbs lo hi s') :=
  ⟨rfl, h.fetchCycles 3⟩

/-- The two bytes of a pointer and the word they make. -/
theorem Alike.rdWord (a b : Word) :
    AlikeValue (word (Machine.rd b (Machine.rd a s).2).1 (Machine.rd a s).1, (Machine.rd b (Machine.rd a s).2).2)
      (word (Machine.rd b (Machine.rd a s').2).1 (Machine.rd a s').1, (Machine.rd b (Machine.rd a s').2).2) := by
  have hlo := h.rd a
  have hhi := hlo.state.rd b
  exact ⟨by simp only [hlo.value, hhi.value], hhi.state⟩

theorem Alike.addrIzX (b1 : Byte) : AlikeValue (addrIzX b1 s) (addrIzX b1 s') := by
  have hd : Alike (dummyRead (zext b1) (Machine.fetchCycles 2 s)) (dummyRead (zext b1) (Machine.fetchCycles 2 s')) :=
    ((h.fetchCycles 2).rd _).state
  unfold Machine.addrIzX
  dsimp only
  rw [hd.cpu]
  exact hd.rdWord _ _

theorem Alike.pointerIzY (b1 : Byte) : AlikeValue (pointerIzY b1 s) (pointerIzY b1 s') :=
  (h.fetchCycles 2).rdWord _ _

omit h in
theorem AlikeValue.addrIndexed {b b' : Word × State} (h : AlikeValue b b') (i : Byte) :
    AlikeValue (addrIndexed i b) (addrIndexed i b') := by
  unfold Machine.addrIndexed
  rw [h.value]
  exact ⟨rfl, (h.state.rd _).state⟩

theorem Alike.addrAbsX (lo hi : Byte) : AlikeValue (addrAbsX lo hi s) (addrAbsX lo hi s') := by
  unfold Machine.addrAbsX
  rw [h.cpu]
  exact (h.addrAbs lo hi).addrIndexed _

theorem Alike.addrAbsY (lo hi : Byte) : AlikeValue (addrAbsY lo hi s) (addrAbsY lo hi s') := by
  unfold Machine.addrAbsY
  rw [h.cpu]
  exact (h.addrAbs lo hi).addrIndexed _

theorem Alike.addrIzY (b1 : Byte) : AlikeValue (addrIzY b1 s) (addrIzY b1 s') := by
  unfold Machine.addrIzY
  rw [h.cpu]
  exact (h.pointerIzY b1).addrIndexed _

/-! ### The operand classes -/

omit h in
theorem AlikeValue.readAt {e e' : Word × State} (h : AlikeValue e e') : AlikeValue (readAt e) (readAt e') := by
  unfold Machine.readAt
  rw [h.value]
  exact h.state.rd _

omit h in
theorem AlikeValue.readIndexed {b b' : Word × State} (h : AlikeValue b b') (i : Byte) :
    AlikeValue (readIndexed i b) (readIndexed i b') := by
  have hr := h.state.rd (uncorrected b'.1 i)
  unfold Machine.readIndexed
  rw [h.value]
  dsimp only
  split
  · exact hr
  · exact hr.state.rd _

omit h in
theorem AlikeValue.storeAt {e e' : Word × State} (h : AlikeValue e e') (v : Byte) :
    Alike (storeAt v e) (storeAt v e') := by
  unfold Machine.storeAt
  rw [h.value]
  exact h.state.wr _ _

omit h in
theorem AlikeValue.modifyAt {e e' : Word × State} (h : AlikeValue e e') (g : Byte → Flags → Alu) :
    AlikeValue (modifyAt g e) (modifyAt g e') := by
  have hm := h.state.rd e'.1
  unfold Machine.modifyAt
  rw [h.value]
  dsimp only
  rw [hm.value, hm.state.cpu]
  exact ⟨rfl, ((hm.state.wr _ _).wr _ _).setP _⟩

theorem Alike.readImm (b1 : Byte) : AlikeValue (readImm b1 s) (readImm b1 s') :=
  ⟨rfl, h.fetchCycles 2⟩

theorem Alike.readZp (b1 : Byte) : AlikeValue (readZp b1 s) (readZp b1 s') := (h.addrZp b1).readAt

theorem Alike.readZpX (b1 : Byte) : AlikeValue (readZpX b1 s) (readZpX b1 s') := (h.addrZpX b1).readAt

theorem Alike.readZpY (b1 : Byte) : AlikeValue (readZpY b1 s) (readZpY b1 s') := (h.addrZpY b1).readAt

theorem Alike.readAbs (lo hi : Byte) : AlikeValue (readAbs lo hi s) (readAbs lo hi s') := (h.addrAbs lo hi).readAt

theorem Alike.readIzX (b1 : Byte) : AlikeValue (readIzX b1 s) (readIzX b1 s') := (h.addrIzX b1).readAt

theorem Alike.readAbsX (lo hi : Byte) : AlikeValue (readAbsX lo hi s) (readAbsX lo hi s') := by
  unfold Machine.readAbsX
  rw [h.cpu]
  exact (h.addrAbs lo hi).readIndexed _

theorem Alike.readAbsY (lo hi : Byte) : AlikeValue (readAbsY lo hi s) (readAbsY lo hi s') := by
  unfold Machine.readAbsY
  rw [h.cpu]
  exact (h.addrAbs lo hi).readIndexed _

theorem Alike.readIzY (b1 : Byte) : AlikeValue (readIzY b1 s) (readIzY b1 s') := by
  unfold Machine.readIzY
  rw [h.cpu]
  exact (h.pointerIzY b1).readIndexed _

omit h in
/-- An operation on registers and an operand byte looks at nothing hidden. -/
theorem observable_operandOp (n : Mnemonic) (r : Byte × State) :
    observable (n.operandOp r) = n.operandOp (r.1, observable r.2) := by
  cases n <;> rfl

omit h in
theorem AlikeValue.operandOp {r r' : Byte × State} (h : AlikeValue r r') (n : Mnemonic) :
    Alike (n.operandOp r) (n.operandOp r') := by
  rw [alike_iff, observable_operandOp, observable_operandOp, h.value, (alike_iff _ _).mp h.state]

/-! ### Implied instructions, control flow, traps -/

theorem Alike.impliedList : impliedList s = impliedList s' := by
  rw [Machine.impliedList, Machine.impliedList, h.cpu]

theorem Alike.implied : Alike (impliedCycles s) (impliedCycles s') := by
  rw [impliedCycles_cycles, impliedCycles_cycles, h.impliedList, h.cpu]
  exact (h.busCycles _).setCpu rfl

theorem Alike.branch (f : Flags → Bool) (d : Byte) :
    Alike (branch (f s.cpu.p) d s) (branch (f s'.cpu.p) d s') := by
  have hl : branchCycles (f s.cpu.p) d s = branchCycles (f s'.cpu.p) d s' := by
    rw [branchCycles, branchCycles, h.cpu]
  rw [branch_cycles, branch_cycles, hl, h.cpu]
  exact (h.busCycles _).setCpu rfl

theorem Alike.jumpIndirect (lo hi : Byte) : Alike (jumpIndirect lo hi s) (jumpIndirect lo hi s') := by
  rw [jumpIndirect_cycles, jumpIndirect_cycles, h.cpu]
  exact (h.busCycles _).setCpu (by rw [(h.busCycles _).dbus, (h.busCycles _).dbus])

theorem Alike.returnFromCall : Alike (returnFromCall s) (returnFromCall s') := by
  rw [returnFromCall_cycles, returnFromCall_cycles, h.impliedList, h.cpu, (h.busCycles _).dbus, (h.busCycles _).dbus]
  exact (h.busCycles _).setCpu rfl

theorem Alike.push (v : Byte) : Alike (push v s) (push v s') := by
  have e : ∀ u : State, Machine.push v u = (Machine.busCycles [.write (stackByte u.cpu.sp) v] u).setCpu
    { u.cpu with sp := u.cpu.sp - 1 } := fun u => push_cycles v [] u u.cpu
  rw [e, e, h.cpu]
  exact (h.busCycles _).setCpu rfl

theorem Alike.idleCycle : Alike (idleCycle s) (idleCycle s') := by
  unfold Machine.idleCycle Machine.dummyRead
  rw [h.cpu]
  exact (h.rd _).state

theorem Alike.callCycles : Alike (callCycles s) (callCycles s') := by
  have e : ∀ u : State, Machine.callCycles u = _ := fun u => callCycles_cycles [] u u.cpu
  rw [e, e, h.cpu]
  exact (h.busCycles _).setCpu rfl

theorem Alike.stackPull : AlikeValue (pull (stackIdle (impliedCycles s))) (pull (stackIdle (impliedCycles s'))) := by
  rw [impliedCycles_cycles, impliedCycles_cycles, stackIdle_cycles, stackIdle_cycles, pull_cycles, pull_cycles,
    h.impliedList, h.cpu]
  exact ⟨(h.busCycles _).dbus, (h.busCycles _).setCpu rfl⟩

theorem Alike.pullFlags :
    Alike (pullFlags (stackIdle (impliedCycles s))) (pullFlags (stackIdle (impliedCycles s'))) := by
  rw [pullFlags_cycles, pullFlags_cycles, h.impliedList, h.cpu, (h.busCycles _).dbus]
  exact (h.busCycles _).setCpu rfl

theorem Alike.returnFromTrap :
    Alike (returnFromTrap (impliedCycles s)) (returnFromTrap (impliedCycles s')) := by
  rw [returnFromTrap_cycles, returnFromTrap_cycles, h.impliedList, h.cpu, (h.busCycles _).dbus, (h.busCycles _).dbus,
    (h.busCycles _).dbus]
  exact (h.busCycles _).setCpu rfl

theorem Alike.takeTrap : Alike (takeTrap (Machine.fetchCycles 2 s)) (takeTrap (Machine.fetchCycles 2 s')) := by
  have hl : trapList s = trapList s' := by rw [trapList, trapList, h.cpu]
  rw [takeTrap_cycles, takeTrap_cycles, hl, h.cpu, (h.busCycles _).dbus, (h.busCycles _).dbus]
  exact (h.busCycles _).setCpu rfl

theorem Alike.nopPolicy (f : Form) : Alike (nopPolicy f.length f.cycles s) (nopPolicy f.length f.cycles s') := by
  have hl : nopCycles f s = nopCycles f s' := by rw [nopCycles, nopCycles, Form.nextPc, Form.nextPc, h.cpu]
  rw [nopPolicy_cycles, nopPolicy_cycles, hl]
  exact (h.busCycles _).setCpu (by rw [Form.nextPc, Form.nextPc, h.cpu])

end operations
end Sys2Proof.Machine
end

section
/-!
PROOF. The noninterference of every instruction, and of the step (rules R52, R61, R146, R280, R282, R283, R373).
-/

namespace Sys2Proof.Machine

/-! ### Answers -/

/-- Where the first answer is a next state, the second is one that agrees with it. -/
def AlikeAnswer (x y : Result) : Prop := ∀ t, x = .next t → ∃ t', y = .next t' ∧ Alike t t'

theorem alikeAnswer_next {t t' : State} (h : Alike t t') : AlikeAnswer (.next t) (.next t') := by
  rintro u hu
  cases hu
  exact ⟨t', rfl, h⟩

/-- The meaning `g` of an instruction, documented or under policy `emulate_stable`, in every state. -/
def HasMeaning (i : Instr) (g : State → State) : Prop :=
  (∀ u, exec i u = complete i.form.op u (g u)) ∨
  (∀ u, exec i u = undocumented i.form.op i.form.length i.form.cycles (fun v => some (g v)) u)

section answers

variable {s s' : State} (h : Alike s s')

include h

theorem Alike.raise (op : Byte) : Alike (raise op s) (raise op s') :=
  { h with fault := by rw [Machine.raise, Machine.raise, h.cpu] }

theorem Alike.complete {t t' : State} (ht : Alike t t') (op : Byte) :
    AlikeAnswer (complete op s t) (complete op s' t') := by
  unfold Machine.complete
  rw [ht.fault]
  split
  · exact alikeAnswer_next ht
  · exact alikeAnswer_next (h.raise op)

/-- An undocumented instruction, by the policy (rules R280, R282, R283). -/
theorem Alike.undocumented {stable : State → Option State} (f : Form)
    (hs : Option.Rel Alike (stable s) (stable s')) :
    AlikeAnswer (undocumented f.op f.length f.cycles stable s) (undocumented f.op f.length f.cycles stable s') := by
  unfold Machine.undocumented
  rw [h.illegalPolicy]
  cases s'.par.illegalPolicy with
  | fault => exact alikeAnswer_next (h.raise _)
  | nop => exact h.complete (h.nopPolicy f) _
  | emulateStable =>
    dsimp only
    generalize stable s = x, stable s' = y at hs
    cases hs with
    | none => exact alikeAnswer_next (h.raise _)
    | some ht => exact h.complete ht _

variable {i : Instr}

theorem Alike.meaning {g : State → State} (hg : Alike (g s) (g s')) (hm : HasMeaning i g) :
    AlikeAnswer (exec i s) (exec i s') := by
  rcases hm with he | he
  · rw [he, he]
    exact h.complete hg _
  · rw [he, he]
    exact h.undocumented i.form (.some hg)

/-- An instruction that has a meaning in no state. -/
theorem Alike.unstable
    (he : ∀ u, exec i u = Machine.undocumented i.form.op i.form.length i.form.cycles (fun _ => none) u) :
    AlikeAnswer (exec i s) (exec i s') := by
  rw [he, he]
  exact h.undocumented i.form .none

theorem Alike.read {read : State → Byte × State} (hr : AlikeValue (read s) (read s'))
    (hm : HasMeaning i fun u => i.form.name.operandOp (read u)) : AlikeAnswer (exec i s) (exec i s') :=
  h.meaning (hr.operandOp _) hm

theorem Alike.write {addr : State → Word × State} (ha : AlikeValue (addr s) (addr s'))
    (hm : HasMeaning i fun u => storeAt (i.form.name.stored u.cpu) (addr u)) : AlikeAnswer (exec i s) (exec i s') :=
  h.meaning (by rw [h.cpu]; exact ha.storeAt _) hm

theorem Alike.rmw {addr : State → Word × State} (ha : AlikeValue (addr s) (addr s'))
    (hm : HasMeaning i fun u => i.form.name.operandOp (modifyAt i.form.name.alu (addr u))) :
    AlikeAnswer (exec i s) (exec i s') :=
  h.meaning ((ha.modifyAt _).operandOp _) hm

/-- ARR looks at the decimal mode besides (rule R283). -/
theorem Alike.arr (b1 : Byte) : AlikeAnswer (exec (.arr b1) s) (exec (.arr b1) s') := by
  refine h.undocumented (Instr.arr b1).form
    (stable := fun u => if inDecimal u.par u.cpu.p then none else some (arrA (Machine.readImm b1 u))) ?_
  have hd : inDecimal s.par s.cpu.p = inDecimal s'.par s'.cpu.p := by
    rw [inDecimal, inDecimal, h.decimalMode, h.cpu]
  rw [hd]
  split
  · exact .none
  · exact .some ((h.readImm b1).operandOp .arr)

/-- Every instruction: one case for each addressing mode of each operand class, and one for each instruction of a class
of its own; documented ones on the left of `HasMeaning`, undocumented ones on its right. -/
theorem Alike.exec (i : Instr) : AlikeAnswer (exec i s) (exec i s') := by
  cases i with
  -- class read
  | oraImm b1 | andImm b1 | eorImm b1 | adcImm b1 | ldyImm b1 | ldxImm b1 | ldaImm b1 | cpyImm b1 | cmpImm b1
  | cpxImm b1 | sbcImm b1 => exact h.read (h.readImm b1) (.inl fun _ => rfl)
  | oraZp b1 | bitZp b1 | andZp b1 | eorZp b1 | adcZp b1 | ldyZp b1 | ldaZp b1 | ldxZp b1 | cpyZp b1 | cmpZp b1
  | cpxZp b1 | sbcZp b1 => exact h.read (h.readZp b1) (.inl fun _ => rfl)
  | oraZpX b1 | andZpX b1 | eorZpX b1 | adcZpX b1 | ldyZpX b1 | ldaZpX b1 | cmpZpX b1 | sbcZpX b1 =>
    exact h.read (h.readZpX b1) (.inl fun _ => rfl)
  | ldxZpY b1 => exact h.read (h.readZpY b1) (.inl fun _ => rfl)
  | oraAbs lo hi | bitAbs lo hi | andAbs lo hi | eorAbs lo hi | adcAbs lo hi | ldyAbs lo hi | ldaAbs lo hi
  | ldxAbs lo hi | cpyAbs lo hi | cmpAbs lo hi | cpxAbs lo hi | sbcAbs lo hi =>
    exact h.read (h.readAbs lo hi) (.inl fun _ => rfl)
  | oraAbsX lo hi | andAbsX lo hi | eorAbsX lo hi | adcAbsX lo hi | ldyAbsX lo hi | ldaAbsX lo hi | cmpAbsX lo hi
  | sbcAbsX lo hi => exact h.read (h.readAbsX lo hi) (.inl fun _ => rfl)
  | oraAbsY lo hi | andAbsY lo hi | eorAbsY lo hi | adcAbsY lo hi | ldaAbsY lo hi | ldxAbsY lo hi | cmpAbsY lo hi
  | sbcAbsY lo hi => exact h.read (h.readAbsY lo hi) (.inl fun _ => rfl)
  | oraIzX b1 | andIzX b1 | eorIzX b1 | adcIzX b1 | ldaIzX b1 | cmpIzX b1 | sbcIzX b1 =>
    exact h.read (h.readIzX b1) (.inl fun _ => rfl)
  | oraIzY b1 | andIzY b1 | eorIzY b1 | adcIzY b1 | ldaIzY b1 | cmpIzY b1 | sbcIzY b1 =>
    exact h.read (h.readIzY b1) (.inl fun _ => rfl)
  -- class write
  | styZp b1 | staZp b1 | stxZp b1 => exact h.write (h.addrZp b1) (.inl fun _ => rfl)
  | styZpX b1 | staZpX b1 => exact h.write (h.addrZpX b1) (.inl fun _ => rfl)
  | stxZpY b1 => exact h.write (h.addrZpY b1) (.inl fun _ => rfl)
  | styAbs lo hi | staAbs lo hi | stxAbs lo hi => exact h.write (h.addrAbs lo hi) (.inl fun _ => rfl)
  | staAbsX lo hi => exact h.write (h.addrAbsX lo hi) (.inl fun _ => rfl)
  | staAbsY lo hi => exact h.write (h.addrAbsY lo hi) (.inl fun _ => rfl)
  | staIzX b1 => exact h.write (h.addrIzX b1) (.inl fun _ => rfl)
  | staIzY b1 => exact h.write (h.addrIzY b1) (.inl fun _ => rfl)
  -- class rmw
  | aslZp b1 | rolZp b1 | lsrZp b1 | rorZp b1 | decZp b1 | incZp b1 => exact h.rmw (h.addrZp b1) (.inl fun _ => rfl)
  | aslZpX b1 | rolZpX b1 | lsrZpX b1 | rorZpX b1 | decZpX b1 | incZpX b1 =>
    exact h.rmw (h.addrZpX b1) (.inl fun _ => rfl)
  | aslAbs lo hi | rolAbs lo hi | lsrAbs lo hi | rorAbs lo hi | decAbs lo hi | incAbs lo hi =>
    exact h.rmw (h.addrAbs lo hi) (.inl fun _ => rfl)
  | aslAbsX lo hi | rolAbsX lo hi | lsrAbsX lo hi | rorAbsX lo hi | decAbsX lo hi | incAbsX lo hi =>
    exact h.rmw (h.addrAbsX lo hi) (.inl fun _ => rfl)
  -- modes `imp` and `acc`
  | aslAcc | rolAcc | lsrAcc | rorAcc | clc | sec | cli | sei | cld | sed | clv | tax | tay | txa | tya | tsx | txs
  | inx | iny | dex | dey =>
    refine h.meaning ?_ (.inl fun _ => rfl)
    simp only [modifyA, State.setAlu_eq, State.setA_eq, State.setX_eq, State.setY_eq, State.setSp_eq, State.setNZ_eq,
      State.setP_eq, State.setCpu_setCpu, State.setCpu_cpu]
    exact h.implied.setCpu (by rw [h.implied.cpu])
  | nop => exact h.meaning h.implied (.inl fun _ => rfl)
  -- branches, jumps, the stack and traps
  | bcc d => exact h.meaning (h.branch (fun p => !p.c) d) (.inl fun _ => rfl)
  | bcs d => exact h.meaning (h.branch (fun p => p.c) d) (.inl fun _ => rfl)
  | beq d => exact h.meaning (h.branch (fun p => p.z) d) (.inl fun _ => rfl)
  | bne d => exact h.meaning (h.branch (fun p => !p.z) d) (.inl fun _ => rfl)
  | bmi d => exact h.meaning (h.branch (fun p => p.n) d) (.inl fun _ => rfl)
  | bpl d => exact h.meaning (h.branch (fun p => !p.n) d) (.inl fun _ => rfl)
  | bvc d => exact h.meaning (h.branch (fun p => !p.v) d) (.inl fun _ => rfl)
  | bvs d => exact h.meaning (h.branch (fun p => p.v) d) (.inl fun _ => rfl)
  | jmpAbs lo hi => exact h.meaning ((h.fetchCycles 3).setPc _) (.inl fun _ => rfl)
  | jmpInd lo hi => exact h.meaning (h.jumpIndirect lo hi) (.inl fun _ => rfl)
  | jsr lo hi => exact h.meaning ((h.fetchCycles 2).callCycles.idleCycle.setPc _) (.inl fun _ => rfl)
  | rts => exact h.meaning h.returnFromCall (.inl fun _ => rfl)
  | pha =>
    refine h.meaning ?_ (.inl fun _ => rfl)
    rw [h.cpu]
    exact h.implied.push _
  | php =>
    refine h.meaning ?_ (.inl fun _ => rfl)
    rw [h.cpu]
    exact h.implied.push _
  | pla => exact h.meaning (h.stackPull.operandOp .lda) (.inl fun _ => rfl)
  | plp => exact h.meaning h.pullFlags (.inl fun _ => rfl)
  | brk => exact h.meaning (g := fun u => Machine.takeTrap (Machine.fetchCycles 2 u)) h.takeTrap (.inl exec_brk)
  | rti => exact h.meaning h.returnFromTrap (.inl fun _ => rfl)
  -- undocumented, in the same classes
  | ancImm op b1 | alr b1 | nopImm op b1 | sbx b1 | usbc b1 => exact h.read (h.readImm b1) (.inr fun _ => rfl)
  | nopZp op b1 | laxZp b1 => exact h.read (h.readZp b1) (.inr fun _ => rfl)
  | nopZpX op b1 => exact h.read (h.readZpX b1) (.inr fun _ => rfl)
  | laxZpY b1 => exact h.read (h.readZpY b1) (.inr fun _ => rfl)
  | nopAbs lo hi | laxAbs lo hi => exact h.read (h.readAbs lo hi) (.inr fun _ => rfl)
  | nopAbsX op lo hi => exact h.read (h.readAbsX lo hi) (.inr fun _ => rfl)
  | las lo hi | laxAbsY lo hi => exact h.read (h.readAbsY lo hi) (.inr fun _ => rfl)
  | laxIzX b1 => exact h.read (h.readIzX b1) (.inr fun _ => rfl)
  | laxIzY b1 => exact h.read (h.readIzY b1) (.inr fun _ => rfl)
  | nopImp op => exact h.meaning h.implied (.inr fun _ => rfl)
  | saxZp b1 => exact h.write (h.addrZp b1) (.inr fun _ => rfl)
  | saxZpY b1 => exact h.write (h.addrZpY b1) (.inr fun _ => rfl)
  | saxAbs lo hi => exact h.write (h.addrAbs lo hi) (.inr fun _ => rfl)
  | saxIzX b1 => exact h.write (h.addrIzX b1) (.inr fun _ => rfl)
  | sloZp b1 | rlaZp b1 | sreZp b1 | rraZp b1 | dcpZp b1 | iscZp b1 => exact h.rmw (h.addrZp b1) (.inr fun _ => rfl)
  | sloZpX b1 | rlaZpX b1 | sreZpX b1 | rraZpX b1 | dcpZpX b1 | iscZpX b1 =>
    exact h.rmw (h.addrZpX b1) (.inr fun _ => rfl)
  | sloAbs lo hi | rlaAbs lo hi | sreAbs lo hi | rraAbs lo hi | dcpAbs lo hi | iscAbs lo hi =>
    exact h.rmw (h.addrAbs lo hi) (.inr fun _ => rfl)
  | sloAbsX lo hi | rlaAbsX lo hi | sreAbsX lo hi | rraAbsX lo hi | dcpAbsX lo hi | iscAbsX lo hi =>
    exact h.rmw (h.addrAbsX lo hi) (.inr fun _ => rfl)
  | sloAbsY lo hi | rlaAbsY lo hi | sreAbsY lo hi | rraAbsY lo hi | dcpAbsY lo hi | iscAbsY lo hi =>
    exact h.rmw (h.addrAbsY lo hi) (.inr fun _ => rfl)
  | sloIzX b1 | rlaIzX b1 | sreIzX b1 | rraIzX b1 | dcpIzX b1 | iscIzX b1 =>
    exact h.rmw (h.addrIzX b1) (.inr fun _ => rfl)
  | sloIzY b1 | rlaIzY b1 | sreIzY b1 | rraIzY b1 | dcpIzY b1 | iscIzY b1 =>
    exact h.rmw (h.addrIzY b1) (.inr fun _ => rfl)
  | arr b1 => exact h.arr b1
  | jam op | ane b1 | shaIzY b1 | tas lo hi | shy lo hi | shx lo hi | shaAbsY lo hi | lxa b1 =>
    exact h.unstable fun _ => rfl

/-! ### The step -/

theorem Alike.fetchByte : AlikeValue (fetchByte s) (fetchByte s') := by
  unfold Machine.fetchByte
  rw [h.cpu]
  have hr := h.rd s'.cpu.pc
  exact ⟨hr.value, hr.state.setCpu (by rw [hr.state.cpu])⟩

/-- The third byte is read after the pushes where the opcode is that of JSR (rule R258). -/
theorem Alike.afterPushes (op : Byte) :
    Alike (if op = jsrOpcode then Machine.callCycles s else s)
      (if op = jsrOpcode then Machine.callCycles s' else s') := by
  split
  · exact h.callCycles
  · exact h

theorem Alike.fetchBytes : fetchBytes s = fetchBytes s' := by
  have hop := h.fetchByte
  have hb := hop.state.fetchByte
  unfold Machine.fetchBytes
  dsimp only
  rw [hb.state.cpu, hop.value, hb.value, ((hb.state.afterPushes _).rd _).value]

theorem Alike.fetchInstr : fetchInstr s = fetchInstr s' := by
  unfold Machine.fetchInstr
  rw [h.fetchBytes]

theorem Alike.takeInputs : Alike (takeInputs s) (takeInputs s') := by
  unfold Machine.takeInputs
  rw [h.pending]
  split
  · exact h
  · exact { h with inp := rfl, pending := rfl }

end answers

/-- Settles O46: both machines fetch the same instruction, and every instruction keeps the states alike. -/
theorem hiddenStateIsNotObserved : Obligations.HiddenStateIsNotObserved := by
  unfold Obligations.HiddenStateIsNotObserved
  intro s s' t ho hs
  have h := (alike_iff s s').mpr ho
  obtain ⟨hf, he⟩ := step_next hs
  obtain ⟨t', ht, ha⟩ := h.takeInputs.exec _ t he
  refine ⟨t', ?_, (alike_iff t t').mp ha⟩
  rw [step, ← h.fault, hf, ← h.takeInputs.fetchInstr]
  exact ht

end Sys2Proof.Machine
end

section
/-!
PROOF. What an instruction answers: the state that its cycle list leads to, and a next state in every case (rules R61,
R63, R145 to R158, R280 to R285, R301, R302).
-/

namespace Sys2Proof.Machine

/-- The end of an instruction is a next state, with or without a fault record (log entry 9). -/
theorem complete_next (op : Byte) (before after : State) : ∃ t, complete op before after = .next t := by
  by_cases h : after.fault = none
  · exact ⟨_, complete_none op before h⟩
  · exact ⟨_, complete_some op before h⟩

/-- Every instruction answers a next state: it faults in the state before it, or it completes. -/
theorem exec_next (i : Instr) (s : State) : ∃ t, exec i s = .next t := by
  rcases exec_runsItsCycles i s with ⟨-, he⟩ | ⟨-, c, he⟩
  · exact ⟨_, he⟩
  · rw [he]
    exact complete_next _ _ _

/-- A step without a fault record is the meaning of the fetched instruction (rules R61, R302). -/
theorem step_of_running {s : State} (h : s.fault = none) :
    step s = exec (fetchInstr (takeInputs s)) (takeInputs s) := by
  rw [step, h]

/-- Settles O5: the step is the meaning of an instruction, and every meaning answers a next state. -/
theorem stepIsTotal : Obligations.StepIsTotal := by
  unfold Obligations.StepIsTotal
  refine ⟨exec_next, fun s h => ?_, fun s r h => by rw [step, h]⟩
  rw [step_of_running h]
  exact exec_next _ _

/-- Settles O41: an instruction that the machine supports runs its cycles, and completes where none of them raises. -/
theorem instructionsMakeTheirCycleLists : Obligations.InstructionsMakeTheirCycleLists := by
  unfold Obligations.InstructionsMakeTheirCycleLists
  intro i s hf hu hq
  rcases exec_runsItsCycles i s with ⟨hn, -⟩ | ⟨-, c, he⟩
  · rw [hu] at hn
    cases hn
  · exact ⟨c, he.trans (complete_cycles _ c hf hq)⟩

end Sys2Proof.Machine
end

section
/-!
PROOF. The address decoder by the bits of the address, and the places of RAM on the bus (rules R64 to R69).
-/

namespace Sys2Proof.Machine

/-! ### The target of an address -/

theorem busAddr_getLsbD (a : Word) {i : Nat} (hi : i < 13) : (busAddr a).getLsbD i = a.getLsbD i := by
  simp [busAddr, hi]

theorem ofNat_mod_two_pow (n x : Nat) : BitVec.ofNat n (x % 2 ^ n) = BitVec.ofNat n x := by
  apply BitVec.eq_of_toNat_eq
  simp

/-- The low bits of an address that a target uses. -/
theorem busAddr_setWidth (a : Word) {n : Nat} (hn : n ≤ 13) :
    (busAddr a).setWidth n = BitVec.ofNat n (a.toNat % 2 ^ n) := by
  rw [busAddr, BitVec.setWidth_setWidth_of_le _ hn, ofNat_mod_two_pow, BitVec.ofNat_toNat]

section bits

variable {a : Word}

/-- With A12 set the cartridge answers (rule R65). -/
theorem decodeBus_cartridge (h12 : a.getLsbD 12 = true) :
    decodeBus (busAddr a) = .cartridge (BitVec.ofNat 12 (a.toNat % 4096)) := by
  rw [← busAddr_getLsbD a (by decide)] at h12
  rw [decodeBus, if_pos h12]
  exact congrArg Target.cartridge (busAddr_setWidth a (by decide))

/-- With A12 and A7 clear the TIA answers (rules R65, R67). -/
theorem decodeBus_tia (h12 : a.getLsbD 12 = false) (h7 : a.getLsbD 7 = false) :
    decodeBus (busAddr a) = .tia (BitVec.ofNat 6 (a.toNat % 64)) := by
  rw [← busAddr_getLsbD a (by decide)] at h12 h7
  rw [decodeBus, h12, h7]
  exact congrArg Target.tia (busAddr_setWidth a (by decide))

/-- With A12 and A9 clear and A7 set RAM answers (rules R65, R66). -/
theorem decodeBus_ram (h12 : a.getLsbD 12 = false) (h7 : a.getLsbD 7 = true) (h9 : a.getLsbD 9 = false) :
    decodeBus (busAddr a) = .ram (BitVec.ofNat 7 (a.toNat % 128)) := by
  rw [← busAddr_getLsbD a (by decide)] at h12 h7 h9
  rw [decodeBus, h12, h7, h9]
  exact congrArg Target.ram (busAddr_setWidth a (by decide))

/-- With A12 clear and A7 and A9 set the RIOT answers (rules R65, R68). -/
theorem decodeBus_riot (h12 : a.getLsbD 12 = false) (h7 : a.getLsbD 7 = true) (h9 : a.getLsbD 9 = true) :
    decodeBus (busAddr a) = .riot (BitVec.ofNat 5 (a.toNat % 32)) := by
  rw [← busAddr_getLsbD a (by decide)] at h12 h7 h9
  rw [decodeBus, h12, h7, h9]
  exact congrArg Target.riot (busAddr_setWidth a (by decide))

end bits

theorem rd_congr {a b : Word} (h : busAddr a = busAddr b) (s : State) : rd a s = rd b s := by
  simp only [rd, readNoCycle, h]

theorem wr_congr {a b : Word} (h : busAddr a = busAddr b) (v : Byte) (s : State) : wr a v s = wr b v s := by
  simp only [wr, h]

/-- Settles O11: an access looks at `busAddr` alone, and the decoder at its bits 12, 7 and 9. -/
theorem busDecodesThirteenBits : Obligations.BusDecodesThirteenBits := by
  unfold Obligations.BusDecodesThirteenBits
  exact ⟨fun a b s h => ⟨rd_congr h s, fun v => wr_congr h v s⟩,
    fun a => ⟨decodeBus_cartridge, decodeBus_tia, decodeBus_ram, decodeBus_riot⟩⟩

/-! ### The places of RAM -/

theorem getLsbD_set {a : Word} {i : Nat} (h : a.toNat / 2 ^ i % 2 = 1) : a.getLsbD i = true :=
  Nat.testBit_eq_decide_div_mod_eq.trans (decide_eq_true h)

theorem getLsbD_clear {a : Word} {i : Nat} (h : a.toNat / 2 ^ i % 2 = 0) : a.getLsbD i = false :=
  Nat.testBit_eq_decide_div_mod_eq.trans (decide_eq_false (by omega))

/-- An address of RAM, by its value: A12 and A9 clear, A7 set (rules R65, R66). -/
theorem decodeBus_ram_of_toNat {a : Word} (h12 : a.toNat / 4096 % 2 = 0) (h9 : a.toNat / 512 % 2 = 0)
    (h7 : a.toNat / 128 % 2 = 1) : decodeBus (busAddr a) = .ram (BitVec.ofNat 7 (a.toNat % 128)) :=
  decodeBus_ram (getLsbD_clear h12) (getLsbD_set h7) (getLsbD_clear h9)

/-- An address of the TIA, by its value: A12 and A7 clear (rules R65, R67). -/
theorem decodeBus_tia_of_toNat {a : Word} (h12 : a.toNat / 4096 % 2 = 0) (h7 : a.toNat / 128 % 2 = 0) :
    decodeBus (busAddr a) = .tia (BitVec.ofNat 6 (a.toNat % 64)) :=
  decodeBus_tia (getLsbD_clear h12) (getLsbD_clear h7)

/-- The base addresses at which the 128 bytes of RAM appear (rule R66). -/
theorem decodeBus_ram_place {base : Nat} (k : BitVec 7)
    (h : base ∈ [0x0080, 0x0180, 0x0480, 0x0580, 0x0880, 0x0980, 0x0C80, 0x0D80]) :
    decodeBus (busAddr (BitVec.ofNat 16 (base + k.toNat))) = .ram k := by
  have hk := k.isLt
  have hb : base < 4096 ∧ base / 512 % 2 = 0 ∧ base % 256 = 128 := by
    revert h base
    decide
  have ha : (BitVec.ofNat 16 (base + k.toNat)).toNat = base + k.toNat := by
    rw [BitVec.toNat_ofNat]
    omega
  rw [decodeBus_ram_of_toNat (by omega) (by omega) (by omega), ha]
  congr 1
  apply BitVec.eq_of_toNat_eq
  rw [BitVec.toNat_ofNat]
  omega

/-! ### Page 0 and the stack -/

theorem zext_toNat (b : Byte) : (zext b).toNat = b.toNat := by
  rw [zext, BitVec.toNat_setWidth]
  omega

theorem word_toNat (hi lo : Byte) : (word hi lo).toNat = hi.toNat * 256 + lo.toNat := by
  rw [word, BitVec.toNat_append, ← Nat.shiftLeft_add_eq_or_of_lt lo.isLt, Nat.shiftLeft_eq]

theorem stackByte_toNat (sp : Byte) : (stackByte sp).toNat = 256 + sp.toNat := by
  rw [stackByte, word_toNat]
  rfl

/-- An address of page 0 or 1 whose low byte has bit 7 set is RAM (rule R66). -/
theorem decodeBus_lowByte_ram {a : Word} {b : Byte} (ha : a.toNat = b.toNat ∨ a.toNat = 256 + b.toNat)
    (hb : 0x80 ≤ b.toNat) : decodeBus (busAddr a) = .ram (BitVec.ofNat 7 b.toNat) := by
  have hl := b.isLt
  rw [decodeBus_ram_of_toNat (by omega) (by omega) (by omega), show a.toNat % 128 = b.toNat % 2 ^ 7 by omega,
    ofNat_mod_two_pow]

/-- An address of page 0 or 1 whose low byte has bit 7 clear is a TIA register (rule R67). -/
theorem decodeBus_lowByte_tia {a : Word} {b : Byte} (ha : a.toNat = b.toNat ∨ a.toNat = 256 + b.toNat)
    (hb : b.toNat < 0x80) : decodeBus (busAddr a) = .tia (BitVec.ofNat 6 b.toNat) := by
  rw [decodeBus_tia_of_toNat (by omega) (by omega), show a.toNat % 64 = b.toNat % 2 ^ 6 by omega, ofNat_mod_two_pow]

/-- A byte of RAM after a write at the address of a byte of RAM (rule R66). -/
theorem readCell_wr_of_ram {s : State} {a : Word} {k : BitVec 7} (ha : decodeBus (busAddr a) = .ram k)
    (hs : Memory.wf s.ram = true) (v : Byte) (j : BitVec 7) :
    readCell (wr a v s).ram j.toNat = if j = k then v else readCell s.ram j.toNat := by
  rw [readCell_wr_ram hs, ha]
  simp only [Target.ram.injEq, eq_comm]

/-- Settles O12: reads and writes of RAM by their target, and the places by the bits of the address. -/
theorem ramReadsWhatWasWritten : Obligations.RamReadsWhatWasWritten := by
  unfold Obligations.RamReadsWhatWasWritten
  exact ⟨fun s a k ha => ⟨rd_ram_value s ha, fun hs v j => readCell_wr_of_ram ha hs v j⟩,
    fun k _ hb => decodeBus_ram_place k hb,
    fun zp h => ⟨decodeBus_lowByte_ram (.inl (zext_toNat zp)) h, decodeBus_lowByte_ram (.inr (stackByte_toNat zp)) h⟩,
    fun zp h => ⟨decodeBus_lowByte_tia (.inl (zext_toNat zp)) h, decodeBus_lowByte_tia (.inr (stackByte_toNat zp)) h⟩⟩

end Sys2Proof.Machine
end

section
/-!
PROOF. The clocks of the chips: the TIA runs three chip-cycles and the RIOT one tick for each CPU cycle that is counted,
hold or not, and the WSYNC hold ends at the start of the next line (rules R62, R315, R335, R364, R372, R475).
-/

namespace Sys2Proof.Machine

/-! ### The TIA runs with the cycle counter -/

/-- From `s` to `u` the TIA was left to its clock: three chip-cycles for each CPU cycle counted (rule R62). -/
def TiaRan (s u : State) : Prop :=
  ∃ n, u.cyc = s.cyc + n ∧ u.par = s.par ∧ u.inp = s.inp ∧ u.tia = runTia s.par s.inp (3 * n) s.tia

theorem TiaRan.refl (s : State) : TiaRan s s := ⟨0, rfl, rfl, rfl, rfl⟩

theorem TiaRan.trans {s u w : State} (h : TiaRan s u) (g : TiaRan u w) : TiaRan s w := by
  obtain ⟨m, hc, hp, hi, ht⟩ := h
  obtain ⟨n, gc, gp, gi, gt⟩ := g
  exact ⟨m + n, by omega, gp.trans hp, gi.trans hi, by rw [gt, ht, hp, hi, ← runTia_add, Nat.mul_add]⟩

theorem tiaRan_advanceChips (s : State) : TiaRan s (advanceChips s) :=
  ⟨1, advanceChips_cyc s, advanceChips_par s, advanceChips_inp s, advanceChips_runTia s⟩

theorem tiaRan_rd (a : Word) (s : State) : TiaRan s (rd a s).2 := by
  have hh : TiaRan s (hold s) :=
    hold_induct (p := TiaRan s) (fun u h => h.trans (tiaRan_advanceChips u)) (TiaRan.refl s)
  exact hh.trans ⟨1, rd_cyc a s, by simp, by simp, by rw [rd_runTia, hold_par, hold_inp]⟩

theorem tiaRan_wr {a : Word} (h : ∀ reg, decodeBus (busAddr a) ≠ .tia reg) (v : Byte) (s : State) :
    TiaRan s (wr a v s) :=
  ⟨1, wr_cyc a v s, wr_par a v s, wr_inp a v s, wr_runTia_elsewhere v s h⟩

/-- The TIA is left to its clock by a list of cycles that does not write to it (rules R62, R67). -/
theorem tiaRan_busCycles {l : List BusCycle} (hl : ∀ a v reg, .write a v ∈ l → decodeBus (busAddr a) ≠ .tia reg)
    (s : State) : TiaRan s (busCycles l s) :=
  busCycles_induct (p := TiaRan s) l (fun a u _ h => h.trans (tiaRan_rd a u))
    (fun a v u hm h => h.trans (tiaRan_wr (fun reg => hl a v reg hm) v u)) (TiaRan.refl s)

theorem TiaRan.tia {s u : State} (h : TiaRan s u) : u.tia = runTia s.par s.inp (3 * (u.cyc - s.cyc)) s.tia := by
  obtain ⟨n, hc, -, -, ht⟩ := h
  rw [ht, hc, Nat.add_sub_cancel_left]

/-- The clock writes no register of the program. -/
theorem runTia_registers (par : Params) (inp : Inputs) (n : Nat) (t : Tia) :
    (runTia par inp n t).registers = t.registers := by
  induction n generalizing t with
  | zero => rfl
  | succ n ih => rw [runTia, ih, tiaClock_registers]

/-! ### The RIOT ticks with the cycle counter -/

/-- From `s` to `u` the timer was not written: the interval stays, and the prescaler counts the CPU cycles (rules R333,
R335). -/
def RiotTicked (s u : State) : Prop :=
  ∃ n, u.cyc = s.cyc + n ∧ u.riot.interval = s.riot.interval ∧ u.riot.sub = s.riot.sub + BitVec.ofNat 10 n

theorem RiotTicked.refl (s : State) : RiotTicked s s := ⟨0, rfl, rfl, (BitVec.add_zero _).symm⟩

theorem RiotTicked.trans {s u w : State} (h : RiotTicked s u) (g : RiotTicked u w) : RiotTicked s w := by
  obtain ⟨m, hc, hi, hs⟩ := h
  obtain ⟨n, gc, gi, gs⟩ := g
  exact ⟨m + n, by omega, gi.trans hi, by rw [gs, hs, BitVec.add_assoc, BitVec.ofNat_add]⟩

theorem riotTick_interval (r : Riot) : (riotTick r).interval = r.interval := by
  simp only [riotTick]
  split
  · split <;> rfl
  · rfl

theorem riotTick_sub (r : Riot) : (riotTick r).sub = r.sub + 1 := rfl

/-- A read clears the flag at most (rule R337). -/
theorem riotRead_interval (sel : BitVec 5) (inp : Inputs) (r : Riot) :
    (riotRead sel inp r).2.interval = r.interval ∧ (riotRead sel inp r).2.sub = r.sub := by
  unfold riotRead
  repeat' split
  all_goals exact ⟨rfl, rfl⟩

theorem riotTicked_advanceChips (s : State) : RiotTicked s (advanceChips s) :=
  ⟨1, advanceChips_cyc s, by rw [advanceChips_riot, riotTick_interval], by rw [advanceChips_riot, riotTick_sub]; rfl⟩

theorem riotTicked_rd (a : Word) (s : State) : RiotTicked s (rd a s).2 := by
  have hh : RiotTicked s (hold s) :=
    hold_induct (p := RiotTicked s) (fun u h => h.trans (riotTicked_advanceChips u)) (RiotTicked.refl s)
  obtain ⟨n, hc, hi, hs⟩ := hh.trans (riotTicked_advanceChips (hold s))
  refine ⟨n, by rw [rd_cyc, ← hc, advanceChips_cyc], ?_⟩
  rw [rd_riot, ← hi, ← hs]
  split
  · exact riotRead_interval _ _ _
  · exact ⟨rfl, rfl⟩

theorem riotTicked_wr {a : Word}
    (h : ∀ sel, decodeBus (busAddr a) = .riot sel → (sel.getLsbD 2 && sel.getLsbD 4) = false) (v : Byte) (s : State) : RiotTicked s (wr a v s) := by
  have hr : (wr a v s).riot = riotTick s.riot := by
    rw [wr_riot]
    split
    · next sel hd => exact if_neg (by rw [h sel hd]; exact Bool.false_ne_true)
    · rfl
  exact ⟨1, wr_cyc a v s, by rw [hr, riotTick_interval], by rw [hr, riotTick_sub]; rfl⟩

/-- The timer is left to its ticks by a list of cycles that makes no timer write (rules R332, R333). -/
theorem riotTicked_busCycles {l : List BusCycle}
    (hl : ∀ a v sel, .write a v ∈ l → decodeBus (busAddr a) = .riot sel → (sel.getLsbD 2 && sel.getLsbD 4) = false)
    (s : State) : RiotTicked s (busCycles l s) :=
  busCycles_induct (p := RiotTicked s) l (fun a u _ h => h.trans (riotTicked_rd a u))
    (fun a v u hm h => h.trans (riotTicked_wr (fun sel => hl a v sel hm) v u)) (RiotTicked.refl s)

theorem RiotTicked.interval {s u : State} (h : RiotTicked s u) : u.riot.interval = s.riot.interval := by
  obtain ⟨-, -, hi, -⟩ := h
  exact hi

theorem RiotTicked.sub {s u : State} (h : RiotTicked s u) :
    u.riot.sub = s.riot.sub + BitVec.ofNat 10 (u.cyc - s.cyc) := by
  obtain ⟨n, hc, -, hs⟩ := h
  rw [hs, hc, Nat.add_sub_cancel_left]

/-! ### The line and the hold of the beam -/

section beam

variable {t : Tia} (par : Params) (inp : Inputs)

/-- Up to the end of its line the beam keeps the line and the hold (rules R366, R372). -/
theorem runTia_insideLine (n : Nat) (h : t.beam.hcount.val + n ≤ 227) :
    (runTia par inp n t).beam.line = t.beam.line ∧ (runTia par inp n t).beam.wsync = t.beam.wsync := by
  induction n with
  | zero => exact ⟨rfl, rfl⟩
  | succ n ih =>
    obtain ⟨hl, hw⟩ := ih (by omega)
    have hc : (runTia par inp n t).beam.hcount ≠ 227 := by
      intro e
      have hv := runTia_hcount_val par inp n t
      rw [e] at hv
      change 227 = _ at hv
      omega
    rw [runTia_succ, tiaClock_line, tiaClock_wsync, if_neg hc, hl, hw]
    simp [hc]

/-- At the end of its line the beam goes to the next line, and the hold ends (rules R366, R372). -/
theorem runTia_endOfLine (n : Nat) (h : t.beam.hcount.val + n = 228) :
    (runTia par inp n t).beam.line = t.beam.line + 1 ∧ (runTia par inp n t).beam.wsync = false := by
  obtain ⟨m, rfl⟩ : ∃ m, n = m + 1 := ⟨n - 1, by omega⟩
  obtain ⟨hl, -⟩ := runTia_insideLine par inp m (t := t) (by omega)
  have hc : (runTia par inp m t).beam.hcount = 227 := by
    apply Fin.ext
    rw [runTia_hcount_val]
    change _ = 227
    omega
  rw [runTia_succ, tiaClock_line, tiaClock_wsync, if_pos hc, hl]
  simp [hc]

/-- In the next line the beam has its line number, and the hold is over. -/
theorem runTia_nextLine (n : Nat) (h : 228 ≤ t.beam.hcount.val + n) (h' : t.beam.hcount.val + n ≤ 455) :
    (runTia par inp n t).beam.line = t.beam.line + 1 ∧ (runTia par inp n t).beam.wsync = false := by
  have hlt := t.beam.hcount.isLt
  obtain ⟨m, rfl⟩ : ∃ m, n = (228 - t.beam.hcount.val) + m := ⟨n - (228 - t.beam.hcount.val), by omega⟩
  obtain ⟨hl, hw⟩ := runTia_endOfLine par inp (228 - t.beam.hcount.val) (t := t) (by omega)
  have hc := runTia_hcount_val par inp (228 - t.beam.hcount.val) t
  obtain ⟨gl, gw⟩ := runTia_insideLine par inp m (t := runTia par inp (228 - t.beam.hcount.val) t) (by omega)
  rw [runTia_add, gl, gw]
  exact ⟨hl, hw⟩

end beam

/-! ### The length of the hold -/

theorem holdFor_of_free (m : Nat) {s : State} (h : s.tia.beam.wsync = false) : holdFor m s = s := by
  cases m with
  | zero => rfl
  | succ m => rw [holdFor, h]; rfl

/-- A hold that begins at `hcount = 3n` takes the `76 - n` CPU cycles that are left of the line (rules R315, R372). -/
theorem holdFor_cyc (m : Nat) {s : State} {n : Nat} (hw : s.tia.beam.wsync = true) (hh : s.tia.beam.hcount.val = 3 * n)
    (hn : n ≤ 75) (hm : 76 - n ≤ m) : (holdFor m s).cyc = s.cyc + (76 - n) := by
  induction m generalizing s n with
  | zero => omega
  | succ m ih =>
    have ht := advanceChips_runTia s
    rw [holdFor, if_pos hw]
    by_cases hlast : n = 75
    · have hfree : (advanceChips s).tia.beam.wsync = false := by
        rw [ht]
        exact (runTia_endOfLine _ _ 3 (by omega)).2
      rw [holdFor_of_free m hfree, advanceChips_cyc, hlast]
    · have hheld : (advanceChips s).tia.beam.wsync = true := by
        rw [ht, (runTia_insideLine _ _ 3 (by omega)).2, hw]
      have hcount : (advanceChips s).tia.beam.hcount.val = 3 * (n + 1) := by
        rw [ht, runTia_hcount_val]
        omega
      rw [ih hheld hcount (by omega) (by omega), advanceChips_cyc]
      omega

theorem tiaStore_strobeWsync (m : Nat) (v : Byte) (t : Tia) : tiaStore m 0x02 v t = strobeWsync t := rfl

/-- A write to WSYNC holds the CPU unless the line has just begun (rule R372). -/
theorem strobeWsync_beam (t : Tia) :
    (strobeWsync t).beam.wsync = (t.beam.wsync || decide (t.beam.hcount ≠ 0)) ∧
      (strobeWsync t).beam.hcount = t.beam.hcount := by
  unfold strobeWsync
  split
  · next h => simp [h]
  · next h => simp [h]

/-- Settles O14: a held read takes the rest of the line and three chip-cycles of the next, in which the chips run as in
any other cycles. -/
theorem wsyncHoldsReadsToTheNextLine : Obligations.WsyncHoldsReadsToTheNextLine := by
  unfold Obligations.WsyncHoldsReadsToTheNextLine
  refine ⟨fun s addr n hw hh hn => ?_, fun s addr v hd => ?_⟩
  · have hc : (rd addr s).2.cyc = s.cyc + (76 - n) + 1 := by
      rw [rd_cyc, hold, holdFor_cyc 76 hw hh hn (Nat.sub_le _ _)]
    have hcycles : (rd addr s).2.cyc - s.cyc = 77 - n := by omega
    have ht := (tiaRan_rd addr s).tia
    have hs := (riotTicked_rd addr s).sub
    rw [hcycles] at ht hs
    obtain ⟨hl, hf⟩ := runTia_nextLine s.par s.inp (3 * (77 - n)) (t := s.tia) (by omega) (by omega)
    dsimp only
    rw [ht]
    exact ⟨hc, by rw [runTia_hcount_val]; omega, hf, hl, hs⟩
  · rw [wr_tia v s hd, tiaStore_strobeWsync]
    exact strobeWsync_beam (runTia s.par s.inp 3 s.tia)

end Sys2Proof.Machine
end

section
/-!
PROOF. The device frame: the TIA, the timer and the banks change only where a cycle accesses them (rules R62, R67 to
R69, R75, R105, R118, R332, R333).
-/

namespace Sys2Proof.Machine

/-- A bus cycle keeps the banks where it triggers nothing: no hot-spot, and no write that scheme `3F` snoops (rules R69,
R105, R118). -/
theorem busCycle_bank {c : BusCycle} {s : State}
    (hh : ∀ off, decodeBus (busAddr c.addr) = .cartridge off → hotSpot s.map.scheme off s.map.bank = s.map.bank)
    (hw : s.map.scheme = .s3f → ∀ a v, c = .write a v → 0x40 ≤ (busAddr a).toNat) :
    (busCycle c s).map.bank = s.map.bank := by
  cases c with
  | read a =>
    rw [busCycle, rd_map]
    split
    · next off hd => rw [mapRead_bank]; exact hh off hd
    · rfl
  | write a v =>
    have hs : snoop .write (busAddr a) v s.map = s.map := by
      unfold snoop
      split
      · next hk =>
        have := hw hk a v rfl
        exact if_neg (by omega)
      · rfl
    rw [busCycle, wr_map, hs]
    split
    · next off hd => rw [mapWrite_bank]; exact hh off hd
    · rfl

theorem busCycles_bank (l : List BusCycle) {s : State}
    (hh : ∀ c off b, c ∈ l → decodeBus (busAddr c.addr) = .cartridge off → hotSpot s.map.scheme off b = b)
    (hw : s.map.scheme = .s3f → ∀ a v, .write a v ∈ l → 0x40 ≤ (busAddr a).toNat) :
    (busCycles l s).map.bank = s.map.bank := by
  induction l generalizing s with
  | nil => rfl
  | cons c rest ih =>
    have hc : (busCycle c s).map.bank = s.map.bank :=
      busCycle_bank (fun off hd => hh c off _ List.mem_cons_self hd)
        fun hk a v e => hw hk a v (e ▸ List.mem_cons_self)
    rw [busCycles, ih (s := busCycle c s), hc]
    · rw [busCycle_scheme]
      exact fun d off b hm => hh d off b (List.mem_cons_of_mem _ hm)
    · rw [busCycle_scheme]
      exact fun hk a v hm => hw hk a v (List.mem_cons_of_mem _ hm)

/-- Settles O45: the instruction faults and changes no device, or each device is the one that its cycle list leaves. -/
theorem devicesChangeOnlyWhereAccessed : Obligations.DevicesChangeOnlyWhereAccessed := by
  unfold Obligations.DevicesChangeOnlyWhereAccessed
  intro i s t _ h
  have hcases : t = raise i.form.op s ∨ ∃ c, t = (busCycles (i.cycleList s) s).setCpu c := by
    rcases exec_next_cases h with he | ⟨-, -, he⟩
    · exact .inl he
    · exact .inr he
  refine ⟨fun hl => ?_, fun hl => ?_, fun hh hw => ?_⟩
  · have ht : TiaRan s t := by
      rcases hcases with rfl | ⟨c, rfl⟩
      · exact TiaRan.refl s
      · exact tiaRan_busCycles hl s
    exact ⟨by rw [ht.tia, runTia_registers], ht.tia⟩
  · have ht : RiotTicked s t := by
      rcases hcases with rfl | ⟨c, rfl⟩
      · exact RiotTicked.refl s
      · exact riotTicked_busCycles hl s
    exact ⟨ht.interval, ht.sub⟩
  · rcases hcases with rfl | ⟨c, rfl⟩
    · rfl
    · exact busCycles_bank _ hh hw

end Sys2Proof.Machine
end

section
/-!
PROOF. The bytes that the fetch reads: those of RAM and of a plain cartridge's image, each as it is in the cycle that
reads it (rules R66, R79, R106, R107, R146, R258).
-/

namespace Sys2Proof.Machine

/-! ### The fetch as bus cycles -/

theorem fetchByte_cycles (l : List BusCycle) (s : State) (c : Cpu) :
    fetchByte ((busCycles l s).setCpu c) =
      ((rd c.pc (busCycles l s)).1, (busCycles (l ++ [.read c.pc]) s).setCpu { c with pc := c.pc + 1 }) := by
  simp only [fetchByte, State.setCpu_cpu, rd_cycles, State.setPc_eq, State.setCpu_setCpu, rd_busCycles]

/-- The first two fetch cycles. -/
def fetchTwo (s : State) : List BusCycle := [.read s.cpu.pc, .read (s.cpu.pc + 1)]

/-- The cycles of JSR before it reads its third byte (rule R258 `c1` to `c5`). -/
def jsrPushes (s : State) : List BusCycle :=
  fetchTwo s ++
    [.read (stackByte s.cpu.sp), .write (stackByte s.cpu.sp) (hiByte (s.cpu.pc + 2)),
     .write (stackByte (s.cpu.sp - 1)) (loByte (s.cpu.pc + 2))]

/-- The three bytes of the fetch, each read after the cycles before it. -/
theorem fetchBytes_eq (s : State) :
    fetchBytes s =
      [(rd s.cpu.pc s).1, (rd (s.cpu.pc + 1) (busCycles [.read s.cpu.pc] s)).1,
       (rd (s.cpu.pc + 2)
         (busCycles (if (rd s.cpu.pc s).1 = jsrOpcode then jsrPushes s else fetchTwo s) s)).1] := by
  have hpc : s.cpu.pc + 1 + 1 = s.cpu.pc + 2 := by bv_omega
  have hop : fetchByte s =
      ((rd s.cpu.pc s).1, (busCycles [.read s.cpu.pc] s).setCpu { s.cpu with pc := s.cpu.pc + 1 }) :=
    fetchByte_cycles [] s s.cpu
  unfold fetchBytes
  simp only [hop, fetchByte_cycles, callCycles_cycles, State.setCpu_cpu, hpc]
  split <;> rw [rd_setCpu] <;> rfl

/-! ### The bytes -/

/-- The byte of an image that a plain scheme shows at an offset depends on the image alone (rules R106, R107). -/
theorem imageIndex_plain {m n : Mapper} (hs : m.scheme = n.scheme) (hp : n.scheme = .plain2k ∨ n.scheme = .plain4k)
    (off : BitVec 12) : imageIndex m off = imageIndex n off := by
  rcases hp with h | h <;> simp only [imageIndex, hs, h]

/-- A read of the window of a plain scheme returns the byte of the image (rules R106, R107). -/
theorem mapRead_plain {m : Mapper} (hp : m.scheme = .plain2k ∨ m.scheme = .plain4k) (off : BitVec 12) (d : Byte) :
    (mapRead off d m).1 = readCell m.rom (imageIndex m off) := by
  have hc : hasCartRam m.scheme = false := by
    rcases hp with h | h <;> rw [h] <;> rfl
  have hi : imageIndex (triggered off m) off = imageIndex m off := imageIndex_plain (triggered_scheme off m) hp off
  simp [mapRead, hc, hi]

/-- What a read of a plain cartridge returns after any bus cycles: none of them changes the image. -/
theorem rd_busCycles_plain {s : State} {a : Word} {off : BitVec 12}
    (hp : s.map.scheme = .plain2k ∨ s.map.scheme = .plain4k) (ha : decodeBus (busAddr a) = .cartridge off)
    (l : List BusCycle) : (rd a (busCycles l s)).1 = readCell s.map.rom (imageIndex s.map off) := by
  obtain ⟨hrom, -, hscheme⟩ := busCycles_image l s
  rw [rd_value, ha]
  dsimp only
  rw [mapRead_plain (by rwa [hscheme]), hrom, imageIndex_plain hscheme hp]

/-- Cycles that only read leave RAM alone. -/
theorem busCycles_ram_of_reads (l : List BusCycle) (s : State) (hl : ∀ a v, .write a v ∉ l) :
    (busCycles l s).ram = s.ram :=
  busCycles_induct (p := fun u => u.ram = s.ram) l (fun a u _ h => (rd_ram a u).trans h)
    (fun a v _ hm _ => absurd hm (hl a v)) rfl

/-- Settles O4: each byte is a read after the cycles before it, which are reads, or for JSR its pushes too. -/
theorem fetchReadsRamAndImage : Obligations.FetchReadsRamAndImage := by
  unfold Obligations.FetchReadsRamAndImage
  intro s op b1 b2 h
  rw [fetchBytes_eq] at h
  simp only [List.cons.injEq, and_true] at h
  obtain ⟨hop, hb1, hb2⟩ := h
  rw [hop] at hb2
  refine ⟨fun k hk => ?_, fun k hk => ?_, fun k hk => ⟨fun hne => ?_, fun hjsr => ?_⟩,
    fun hp off => ⟨fun ha => ?_, fun ha => ?_, fun ha => ?_⟩⟩
  · rw [← hop, rd_ram_value s hk]
  · rw [← hb1, rd_ram_value _ hk, busCycles_ram_of_reads _ s (by simp)]
  · rw [← hb2, rd_ram_value _ hk, if_neg (show op ≠ jsrOpcode from hne),
      busCycles_ram_of_reads _ s (by simp [fetchTwo])]
  · rw [← hb2, rd_ram_value _ hk, if_pos (show op = jsrOpcode from hjsr)]
    rfl
  · exact hop.symm.trans (rd_busCycles_plain hp ha [])
  · rw [← hb1, rd_busCycles_plain hp ha]
  · rw [← hb2, rd_busCycles_plain hp ha]

end Sys2Proof.Machine
end

section
/-!
PROOF. Call and return, trap and return from it: what JSR and BRK push onto a stack in RAM is what RTS and RTI pull
(rules R22, R66, R258, R259, R262, R263).
-/

namespace Sys2Proof.Machine

/-! ### The stack in RAM -/

/-- The place in RAM of a byte of the stack (rules R22, R66). -/
def stackCell (sp : Byte) : Nat := (BitVec.ofNat 7 sp.toNat).toNat

theorem decodeBus_stackByte {sp : Byte} (h : 0x80 ≤ sp.toNat) :
    decodeBus (busAddr (stackByte sp)) = .ram (BitVec.ofNat 7 sp.toNat) :=
  decodeBus_lowByte_ram (.inr (stackByte_toNat sp)) h

/-- Bytes of the stack in RAM are places of their own. -/
theorem stackCell_inj {sp sp' : Byte} (h : 0x80 ≤ sp.toNat) (h' : 0x80 ≤ sp'.toNat) :
    stackCell sp = stackCell sp' ↔ sp = sp' := by
  have hl := sp.isLt
  have hl' := sp'.isLt
  rw [stackCell, stackCell, BitVec.toNat_ofNat, BitVec.toNat_ofNat, ← BitVec.toNat_inj]
  omega

/-- The RAM after a write to a byte of the stack. -/
theorem wr_stackByte_ram {sp : Byte} (h : 0x80 ≤ sp.toNat) (v : Byte) (s : State) :
    (wr (stackByte sp) v s).ram = writeCell s.ram (stackCell sp) v := by
  rw [wr_ram, decodeBus_stackByte h]
  rfl

/-- The byte that a read of the stack puts on the bus. -/
theorem rd_stackByte {sp : Byte} (h : 0x80 ≤ sp.toNat) (s : State) :
    (rd (stackByte sp) s).2.dbus = readCell s.ram (stackCell sp) :=
  (rd_dbus _ s).trans (rd_ram_value s (decodeBus_stackByte h))

/-! ### What RTS and RTI pull -/

theorem pullCycles_reads (n : Nat) (sp : Byte) : ∀ a v, .write a v ∉ pullCycles n sp := by
  induction n generalizing sp with
  | zero => simp [pullCycles]
  | succ n ih => simpa [pullCycles] using ih (sp + 1)

/-- After the pull of `n` bytes the bus holds the last of them. -/
theorem dbus_pullCycles (n : Nat) {sp k : Byte} (hk : sp + BitVec.ofNat 8 n = k) (h : 0x80 ≤ k.toNat) (s : State) :
    (busCycles (pullCycles n sp) s).dbus = readCell s.ram (stackCell k) := by
  induction n generalizing sp s with
  | zero =>
    obtain rfl : sp = k := (BitVec.add_zero sp).symm.trans hk
    exact rd_stackByte h s
  | succ n ih =>
    have hs : sp + 1 + BitVec.ofNat 8 n = k := by
      rw [← hk, Nat.add_comm n, BitVec.ofNat_add, BitVec.add_assoc]
      rfl
    rw [pullCycles, busCycles, ih hs]
    exact congrArg (readCell · _) (rd_ram _ s)

/-- The same after the fetch of a one-byte instruction. -/
theorem dbus_impliedList_pullCycles (n : Nat) {s : State} {k : Byte} (hk : s.cpu.sp + BitVec.ofNat 8 n = k)
    (h : 0x80 ≤ k.toNat) :
    (busCycles (impliedList s ++ pullCycles n s.cpu.sp) s).dbus = readCell s.ram (stackCell k) := by
  rw [busCycles_append, dbus_pullCycles n hk h, busCycles_ram_of_reads _ s (by simp [impliedList])]

/-- A list of cycles that only reads does not raise. -/
theorem quiet_of_reads {l : List BusCycle} (hl : ∀ a v, .write a v ∉ l) (s : State) : Quiet l s := by
  refine .inl (List.any_eq_false.mpr fun c hc => ?_)
  cases c with
  | read a => exact Bool.false_ne_true
  | write a v => exact absurd hc (hl a v)

theorem word_hiByte_loByte (w : Word) : word (hiByte w) (loByte w) = w :=
  BitVec.extractLsb'_append_extractLsb'

/-- RTS with the return address on a stack in RAM (rule R259). -/
theorem exec_rts_of_ram {u : State} {sp : Byte} (hf : u.fault = none) (hsp : u.cpu.sp = sp - 2)
    (h : 0x81 ≤ sp.toNat) :
    ∃ w, exec .rts u = .next w ∧
      w.cpu.pc = word (readCell u.ram (stackCell sp)) (readCell u.ram (stackCell (sp - 1))) + 1 ∧
      w.cpu.sp = sp ∧ w.cpu.p = u.cpu.p := by
  have hlo := dbus_impliedList_pullCycles 1 (s := u) (k := sp - 1) (by rw [hsp]; bv_omega) (by bv_omega)
  have hhi := dbus_impliedList_pullCycles 2 (s := u) (k := sp) (by rw [hsp]; bv_omega) (by omega)
  have he : exec .rts u = complete 0x60 u (returnFromCall u) := rfl
  rw [returnFromCall_cycles, hlo, hhi,
    complete_cycles _ _ hf (quiet_of_reads (by simp [impliedList, pullCycles_reads]) u)] at he
  exact ⟨_, he, rfl, by rw [State.setCpu_cpu, hsp]; bv_omega, rfl⟩

/-- RTI with the status byte and the return address on a stack in RAM (rule R263). -/
theorem exec_rti_of_ram {u : State} {sp : Byte} (hf : u.fault = none) (hsp : u.cpu.sp = sp - 3)
    (h : 0x82 ≤ sp.toNat) :
    ∃ w, exec .rti u = .next w ∧
      w.cpu.pc = word (readCell u.ram (stackCell sp)) (readCell u.ram (stackCell (sp - 1))) ∧
      w.cpu.sp = sp ∧ w.cpu.p = flagsOf (readCell u.ram (stackCell (sp - 2))) := by
  have hp := dbus_impliedList_pullCycles 1 (s := u) (k := sp - 2) (by rw [hsp]; bv_omega) (by bv_omega)
  have hlo := dbus_impliedList_pullCycles 2 (s := u) (k := sp - 1) (by rw [hsp]; bv_omega) (by bv_omega)
  have hhi := dbus_impliedList_pullCycles 3 (s := u) (k := sp) (by rw [hsp]; bv_omega) (by omega)
  have he : exec .rti u = complete 0x40 u (returnFromTrap (impliedCycles u)) := rfl
  rw [returnFromTrap_cycles, hp, hlo, hhi,
    complete_cycles _ _ hf (quiet_of_reads (by simp [impliedList, pullCycles_reads]) u)] at he
  exact ⟨_, he, rfl, by rw [State.setCpu_cpu, hsp]; bv_omega, rfl⟩

/-! ### What JSR and BRK push -/

/-- A list of cycles that writes only to a stack in RAM does not raise. -/
theorem quiet_of_stack_writes {l : List BusCycle} (s : State)
    (hl : ∀ a v, .write a v ∈ l → ∃ sp : Byte, a = stackByte sp ∧ 0x80 ≤ sp.toNat) : Quiet l s := by
  refine .inl (List.any_eq_false.mpr fun c hc => ?_)
  cases c with
  | read a => exact Bool.false_ne_true
  | write a v =>
    obtain ⟨sp, rfl, h⟩ := hl a v hc
    simp [decodeBus_stackByte h]

theorem exec_jsr (lo hi : Byte) (s : State) :
    exec (.jsr lo hi) s =
      complete 0x20 s ((busCycles (jsrPushes s ++ [.read (s.cpu.pc + 2)]) s).setCpu
        { s.cpu with sp := s.cpu.sp - 2, pc := word hi lo }) := by
  have he : exec (.jsr lo hi) s =
    complete 0x20 s ((idleCycle (callCycles (fetchCycles 2 s))).setPc (word hi lo)) := rfl
  rw [he, fetchCycles_cycles, callCycles_cycles, idleCycle_cycles, State.setPc_eq, State.setCpu_setCpu]
  rfl

section pushes

variable {s : State}

/-- JSR with its stack in RAM: the return address is pushed, and nothing else is written (rule R258). -/
theorem exec_jsr_of_ram {t : State} {lo hi : Byte} (hf : s.fault = none) (h : 0x81 ≤ s.cpu.sp.toNat)
    (he : exec (.jsr lo hi) s = .next t) :
    t.cpu.sp = s.cpu.sp - 2 ∧
      t.ram = writeCell (writeCell s.ram (stackCell s.cpu.sp) (hiByte (s.cpu.pc + 2))) (stackCell (s.cpu.sp - 1))
        (loByte (s.cpu.pc + 2)) := by
  have h1 : 0x80 ≤ (s.cpu.sp - 1).toNat := by bv_omega
  rw [exec_jsr, complete_cycles _ _ hf (quiet_of_stack_writes s ?_)] at he
  · cases he
    refine ⟨rfl, ?_⟩
    simp only [jsrPushes, fetchTwo, List.cons_append, List.nil_append, State.setCpu_ram, busCycles, busCycle, rd_ram,
      wr_stackByte_ram h1, wr_stackByte_ram (show 0x80 ≤ s.cpu.sp.toNat by omega)]
  · intro a v hm
    simp only [jsrPushes, fetchTwo, List.cons_append, List.nil_append, List.mem_cons, BusCycle.write.injEq,
      reduceCtorEq, List.not_mem_nil, false_or, or_false] at hm
    rcases hm with ⟨rfl, -⟩ | ⟨rfl, -⟩
    · exact ⟨_, rfl, by omega⟩
    · exact ⟨_, rfl, h1⟩

/-- BRK with its stack in RAM: the return address and the status byte are pushed, and nothing else is written (rule
R262). -/
theorem exec_brk_of_ram {t : State} (hf : s.fault = none) (h : 0x82 ≤ s.cpu.sp.toNat)
    (he : exec .brk s = .next t) :
    t.cpu.sp = s.cpu.sp - 3 ∧
      t.ram = writeCell
        (writeCell (writeCell s.ram (stackCell s.cpu.sp) (hiByte (s.cpu.pc + 2))) (stackCell (s.cpu.sp - 1))
          (loByte (s.cpu.pc + 2)))
        (stackCell (s.cpu.sp - 2)) (statusByte s.cpu.p) := by
  have h1 : 0x80 ≤ (s.cpu.sp - 1).toNat := by bv_omega
  have h2 : 0x80 ≤ (s.cpu.sp - 2).toNat := by bv_omega
  rw [exec_brk, takeTrap_cycles, complete_cycles _ _ hf (quiet_of_stack_writes s ?_)] at he
  · cases he
    refine ⟨rfl, ?_⟩
    simp only [trapList, fetches, List.cons_append, List.nil_append, State.setCpu_ram, busCycles, busCycle, rd_ram,
      wr_stackByte_ram h1, wr_stackByte_ram h2, wr_stackByte_ram (show 0x80 ≤ s.cpu.sp.toNat by omega)]
  · intro a v hm
    simp only [trapList, fetches, List.cons_append, List.nil_append, List.mem_cons, BusCycle.write.injEq, reduceCtorEq,
      List.not_mem_nil, false_or, or_false] at hm
    rcases hm with ⟨rfl, -⟩ | ⟨rfl, -⟩ | ⟨rfl, -⟩
    · exact ⟨_, rfl, by omega⟩
    · exact ⟨_, rfl, h1⟩
    · exact ⟨_, rfl, h2⟩

end pushes

/-! ### There and back -/

/-- A byte pushed onto a stack in RAM leaves the other bytes of the stack alone. -/
theorem readCell_pushed_elsewhere {m : Memory} {sp k : Byte} (hm : Memory.wf m = true) (hs : 0x80 ≤ sp.toNat)
    (hk : 0x80 ≤ k.toNat) (hne : k ≠ sp) (v : Byte) :
    readCell (writeCell m (stackCell sp) v) (stackCell k) = readCell m (stackCell k) := by
  rw [readCell_writeCell _ _ _ _ hm, if_neg]
  rwa [stackCell_inj hk hs]

theorem readCell_pushed {m : Memory} (hm : Memory.wf m = true) (sp v : Byte) :
    readCell (writeCell m (stackCell sp) v) (stackCell sp) = v := by
  rw [readCell_writeCell _ _ _ _ hm, if_pos rfl]

/-- A word pushed onto a stack in RAM, high byte first, is there to be pulled. -/
theorem readCell_pushed_word {m : Memory} {sp : Byte} (hm : Memory.wf m = true) (h : 0x81 ≤ sp.toNat) (hi lo : Byte) :
    readCell (writeCell (writeCell m (stackCell sp) hi) (stackCell (sp - 1)) lo) (stackCell sp) = hi ∧
    readCell (writeCell (writeCell m (stackCell sp) hi) (stackCell (sp - 1)) lo) (stackCell (sp - 1)) = lo := by
  have hw := Memory.wf_writeCell m (stackCell sp) hi hm
  refine ⟨?_, readCell_pushed hw _ lo⟩
  rw [readCell_pushed_elsewhere hw (by bv_omega) (by omega) (by bv_omega), readCell_pushed hm]

/-- The status byte holds the six flags (rules R24, R186). -/
theorem flagsOf_statusByte (p : Flags) : flagsOf (statusByte p) = p := by
  obtain ⟨n, v, d, i, z, c⟩ := p
  revert n v d i z c
  decide

/-- Settles O35: the pulls read the bytes of RAM that the pushes wrote, in the opposite order. -/
theorem returnUndoesCallAndTrap : Obligations.ReturnUndoesCallAndTrap := by
  unfold Obligations.ReturnUndoesCallAndTrap
  refine ⟨fun s t u lo hi hf hm h he huf hram hsp => ?_, fun s t u hf hm h he huf hram hsp => ?_⟩
  · obtain ⟨htsp, htram⟩ := exec_jsr_of_ram hf h he
    obtain ⟨w, hw, hpc, hwsp, hp⟩ := exec_rts_of_ram huf (hsp.trans htsp) h
    obtain ⟨hhi, hlo⟩ := readCell_pushed_word hm h (hiByte (s.cpu.pc + 2)) (loByte (s.cpu.pc + 2))
    rw [hram, htram, hhi, hlo, word_hiByte_loByte] at hpc
    exact ⟨w, hw, by rw [hpc]; bv_omega, hwsp, hp⟩
  · obtain ⟨htsp, htram⟩ := exec_brk_of_ram hf h he
    obtain ⟨w, hw, hpc, hwsp, hp⟩ := exec_rti_of_ram huf (hsp.trans htsp) h
    obtain ⟨hhi, hlo⟩ := readCell_pushed_word hm (show 0x81 ≤ s.cpu.sp.toNat by omega) (hiByte (s.cpu.pc + 2))
      (loByte (s.cpu.pc + 2))
    have hwf := Memory.wf_writeCell _ (stackCell (s.cpu.sp - 1)) (loByte (s.cpu.pc + 2))
      (Memory.wf_writeCell _ (stackCell s.cpu.sp) (hiByte (s.cpu.pc + 2)) hm)
    rw [hram, htram, readCell_pushed_elsewhere hwf (by bv_omega) (by omega) (by bv_omega),
      readCell_pushed_elsewhere hwf (by bv_omega) (by bv_omega) (by bv_omega), hhi, hlo, word_hiByte_loByte] at hpc
    rw [hram, htram, readCell_pushed hwf, flagsOf_statusByte] at hp
    exact ⟨w, hw, hpc, hwsp, hp⟩

end Sys2Proof.Machine
end

section
/-!
PROOF. The cartridge by its scheme: what a hot-spot selects, what the window shows, the ports of the cartridge RAM, and
the trigger of scheme `3F` (rules R105 to R118).
-/

namespace Sys2Proof.Machine

/-! ### The hot-spots -/

/-- The hot-spots select their bank; `last` is the last of them (rules R108 to R112). -/
theorem selectBank_eq {first count last : Nat} (h : first + count = last + 1) (off : BitVec 12) (b : Banks) :
    selectBank first count off b =
      { b with w0 := if first ≤ off.toNat ∧ off.toNat ≤ last then off.toNat - first else b.w0 } := by
  unfold selectBank
  split
  · rw [if_pos (by omega)]
  · rw [if_neg (by omega)]

/-- The hot-spots of a sub-window select its slice and no other (rule R115). -/
theorem selectSlice_eq (off : BitVec 12) (b : Banks) :
    selectSlice off b =
      ⟨if 0xFE0 ≤ off.toNat ∧ off.toNat ≤ 0xFE7 then off.toNat % 8 else b.w0,
       if 0xFE8 ≤ off.toNat ∧ off.toNat ≤ 0xFEF then off.toNat % 8 else b.w1,
       if 0xFF0 ≤ off.toNat ∧ off.toNat ≤ 0xFF7 then off.toNat % 8 else b.w2⟩ := by
  unfold selectSlice
  dsimp only
  split
  · rw [if_neg (by omega), if_neg (by omega)]
  · split
    · rw [if_neg (by omega)]
    · split <;> rfl

/-- No scheme has a hot-spot below offset `0xFE0` (rules R105 to R118). -/
theorem hotSpot_of_low {off : BitVec 12} (h : off.toNat < 0xFE0) (k : Scheme) (b : Banks) : hotSpot k off b = b := by
  cases k with
  | plain2k | plain4k | s3f => rfl
  | f8 | f8sc | f6 | f6sc | f4 | f4sc | ef => exact if_neg (by omega)
  | e0 =>
    rw [hotSpot, selectSlice_eq, if_neg (by omega), if_neg (by omega), if_neg (by omega)]

/-- The schemes without cartridge RAM whose hot-spots select the bank of the whole window, with the first and the last
of them (rules R108 to R111). -/
def romHotSpots : List (Scheme × Nat × Nat) :=
  [(.f8, 0xFF8, 0xFF9), (.f6, 0xFF6, 0xFF9), (.f4, 0xFF4, 0xFFB), (.ef, 0xFE0, 0xFEF)]

/-- The schemes with cartridge RAM, with the hot-spots of their base schemes (rule R112). -/
def cartRamHotSpots : List (Scheme × Nat × Nat) :=
  [(.f8sc, 0xFF8, 0xFF9), (.f6sc, 0xFF6, 0xFF9), (.f4sc, 0xFF4, 0xFFB)]

/-- The schemes whose hot-spots select the bank of the whole window (rules R108 to R112). -/
def windowHotSpots : List (Scheme × Nat × Nat) := romHotSpots ++ cartRamHotSpots

theorem hasCartRam_romHotSpots : ∀ row ∈ romHotSpots, hasCartRam row.1 = false := by
  decide

section window

variable {k : Scheme} {first last : Nat}

theorem hotSpot_window (h : (k, first, last) ∈ windowHotSpots) (off : BitVec 12) (b : Banks) :
    hotSpot k off b =
      { b with w0 := if first ≤ off.toNat ∧ off.toNat ≤ last then off.toNat - first else b.w0 } := by
  simp only [windowHotSpots, romHotSpots, cartRamHotSpots, List.cons_append, List.nil_append, List.mem_cons,
    Prod.mk.injEq, List.not_mem_nil, or_false] at h
  rcases h with ⟨rfl, rfl, rfl⟩ | ⟨rfl, rfl, rfl⟩ | ⟨rfl, rfl, rfl⟩ | ⟨rfl, rfl, rfl⟩ | ⟨rfl, rfl, rfl⟩ |
    ⟨rfl, rfl, rfl⟩ | ⟨rfl, rfl, rfl⟩
  all_goals exact selectBank_eq (by rfl) off b

theorem imageIndex_window {m : Mapper} (h : (m.scheme, first, last) ∈ windowHotSpots) (b : Banks) (off : BitVec 12) :
    imageIndex { m with bank := b } off = b.w0 * 4096 + off.toNat := by
  have hs : m.scheme ∈ windowHotSpots.map Prod.fst := List.mem_map_of_mem h
  unfold imageIndex
  dsimp only
  revert hs
  cases m.scheme with
  | f8 | f6 | f4 | ef | f8sc | f6sc | f4sc => exact fun _ => rfl
  | plain2k | plain4k | e0 | s3f => exact fun hs => absurd hs (by decide)

end window

/-- The slice of scheme `E0` that each sub-window of 1 KiB shows; the fourth is fixed (rule R115). -/
theorem imageIndex_e0 {m : Mapper} (hk : m.scheme = .e0) (b : Banks) (off : BitVec 12) :
    imageIndex { m with bank := b } off =
      (if off.toNat / 1024 = 0 then b.w0
       else if off.toNat / 1024 = 1 then b.w1
       else if off.toNat / 1024 = 2 then b.w2
       else 7) * 1024 + off.toNat % 1024 := by
  simp only [imageIndex, hk]
  congr 2
  repeat' split
  all_goals omega

/-! ### The window -/

/-- A read where there is no cartridge RAM: the trigger, then the byte of the image (rules R105 to R118). -/
theorem mapRead_of_noPort {off : BitVec 12} {m : Mapper} (h : hasCartRam m.scheme = false ∨ 0x100 ≤ off.toNat)
    (d : Byte) : mapRead off d m = (readCell m.rom (imageIndex (triggered off m) off), triggered off m) := by
  unfold mapRead
  dsimp only
  split
  · next hc =>
    have ho : 0x100 ≤ off.toNat := h.resolve_left (by simpa using hc)
    rw [if_neg (by omega), if_neg (by omega), triggered_rom]
  · rfl

/-- A write where there is no write port stores nothing (rules R69, R105 to R118). -/
theorem mapWrite_of_noCartRam {off : BitVec 12} {m : Mapper} (h : hasCartRam m.scheme = false) (v : Byte) :
    mapWrite off v m = triggered off m := by
  simp [mapWrite, h]

/-- A read of the write port answers the value on the bus (rule R112). -/
theorem mapRead_writePort {off : BitVec 12} {m : Mapper} (hc : hasCartRam m.scheme = true) (h : off.toNat < 0x80)
    (d : Byte) : (mapRead off d m).1 = d := by
  simp [mapRead, hc, h]

/-- A read of the read port answers the byte stored, and changes nothing (rule R112). -/
theorem mapRead_readPort {off : BitVec 12} {m : Mapper} (hc : hasCartRam m.scheme = true) (h80 : 0x80 ≤ off.toNat)
    (h100 : off.toNat < 0x100) (d : Byte) : mapRead off d m = (readCell m.ram (off.toNat - 0x80), m) := by
  have ht : triggered off m = m := by
    rw [triggered, hotSpot_of_low (by omega)]
  simp only [mapRead, ht]
  rw [if_pos hc, if_neg (by omega), if_pos h100]

section access

variable {a : Word} {off : BitVec 12} {s : State}

/-- The answer of a read of the window is the mapper's (rule R62). -/
theorem rd_cartridge (ha : decodeBus (busAddr a) = .cartridge off) :
    (rd a s).1 = (mapRead off s.dbus s.map).1 ∧ (rd a s).2.map = (mapRead off s.dbus s.map).2 := by
  rw [rd_value, rd_map, ha]
  exact ⟨rfl, rfl⟩

/-- A scheme without cartridge RAM: an access leaves the banks that its hot-spot selects, a read returns the byte of
these, a write stores nothing (rules R105 to R111, R115, R118). -/
theorem access_of_noCartRam (ha : decodeBus (busAddr a) = .cartridge off) (hc : hasCartRam s.map.scheme = false)
    {b : Banks} (hb : hotSpot s.map.scheme off s.map.bank = b) :
    (rd a s).1 = readCell s.map.rom (imageIndex { s.map with bank := b } off) ∧
    (rd a s).2.map = { s.map with bank := b } ∧ ∀ v, (wr a v s).map = { s.map with bank := b } := by
  obtain ⟨hv, hm⟩ := rd_cartridge (s := s) ha
  rw [mapRead_of_noPort (.inl hc)] at hv hm
  subst hb
  exact ⟨hv, hm, fun v => by rw [wr_map_cartridge ha, mapWrite_of_noCartRam hc]; rfl⟩

/-- The banks after an access, read or write, are those that its hot-spot selects (rules R105, R112). -/
theorem access_bank (ha : decodeBus (busAddr a) = .cartridge off) :
    (rd a s).2.map.bank = hotSpot s.map.scheme off s.map.bank ∧
    ∀ v, (wr a v s).map.bank = hotSpot s.map.scheme off s.map.bank :=
  ⟨by rw [(rd_cartridge ha).2, mapRead_bank], fun v => by rw [wr_map_cartridge ha, mapWrite_bank]⟩

/-- A read above the ports of the cartridge RAM: the byte of the banks that its hot-spot selects (rule R112). -/
theorem rd_above_ports (ha : decodeBus (busAddr a) = .cartridge off) (h : 0x100 ≤ off.toNat) :
    (rd a s).1 = readCell s.map.rom (imageIndex (triggered off s.map) off) := by
  rw [(rd_cartridge ha).1, mapRead_of_noPort (.inr h)]

/-- The cartridge RAM after an access of the window: the write port takes the byte on the bus (rule R112). -/
theorem access_cartRam (ha : decodeBus (busAddr a) = .cartridge off) (hc : hasCartRam s.map.scheme = true) :
    (rd a s).2.map.ram = (if off.toNat < 0x80 then writeCell s.map.ram off.toNat s.dbus else s.map.ram) ∧
    ∀ v, (wr a v s).map.ram = if off.toNat < 0x80 then writeCell s.map.ram off.toNat v else s.map.ram := by
  refine ⟨?_, fun v => ?_⟩
  · rw [(rd_cartridge ha).2, mapRead_ram]
    simp only [hc, true_and]
  · rw [wr_map_cartridge ha, mapWrite_ram]
    simp only [hc, true_and]

end access

/-- Settles O15: no such scheme has cartridge RAM, so each access is its hot-spot and the byte of the image. -/
theorem hotSpotsSelectTheBank : Obligations.HotSpotsSelectTheBank := by
  unfold Obligations.HotSpotsSelectTheBank
  intro s addr off ha
  refine ⟨fun hk => ?_, fun hk => ?_, ?_, fun hk => ?_⟩
  · obtain ⟨hv, hm⟩ := access_of_noCartRam ha (by rw [hk]; rfl) (b := s.map.bank) (by rw [hk]; rfl)
    exact ⟨by simpa only [imageIndex, hk] using hv, hm⟩
  · obtain ⟨hv, hm⟩ := access_of_noCartRam ha (by rw [hk]; rfl) (b := s.map.bank) (by rw [hk]; rfl)
    exact ⟨by simpa only [imageIndex, hk] using hv, hm⟩
  · rintro ⟨k, first, last⟩ hr hk
    have hc : hasCartRam s.map.scheme = false := hk ▸ hasCartRam_romHotSpots _ hr
    have hw : (s.map.scheme, first, last) ∈ windowHotSpots := hk ▸ List.mem_append_left _ hr
    obtain ⟨hv, hm⟩ := access_of_noCartRam ha hc (hotSpot_window hw off s.map.bank)
    exact ⟨by rw [hv, imageIndex_window hw], hm⟩
  · have hb : hotSpot s.map.scheme off s.map.bank = selectSlice off s.map.bank := by rw [hk]; rfl
    obtain ⟨hv, hm, hw⟩ := access_of_noCartRam ha (by rw [hk]; rfl) (hb.trans (selectSlice_eq off s.map.bank))
    rw [imageIndex_e0 hk] at hv
    exact ⟨hm, hw, fun h => by simp [hv, h], fun h => by simp [hv, h], fun h => by simp [hv, h],
      fun h => by simp [hv, h]⟩

/-! ### Scheme 3F -/

/-- The addresses that scheme `3F` snoops are those of the TIA in page 0 (rules R67, R118). -/
theorem decodeBus_tia_of_le {a : Word} (h : (busAddr a).toNat ≤ 0x3F) :
    decodeBus (busAddr a) = .tia (BitVec.ofNat 6 (busAddr a).toNat) := by
  have hb : (busAddr a).toNat = a.toNat % 2 ^ 13 := BitVec.toNat_setWidth 13 a
  rw [decodeBus_tia_of_toNat (by omega) (by omega), show a.toNat % 64 = (busAddr a).toNat by omega]

/-- The banks of scheme `3F` after a write: the trigger on the bus, and none in the window (rule R118). -/
theorem wr_bank_s3f {s : State} (hk : s.map.scheme = .s3f) (a : Word) (v : Byte) :
    (wr a v s).map.bank.w0 =
      if (busAddr a).toNat ≤ 0x3F then v.toNat % (s.map.size.bytes / 2048) else s.map.bank.w0 := by
  have hb : (wr a v s).map.bank = (snoop .write (busAddr a) v s.map).bank := by
    rw [wr_map]
    split
    · rw [mapWrite_bank, (snoop_image _ _ _ _).2.2, hk]
      rfl
    · rfl
  rw [hb]
  simp only [snoop, hk]
  split <;> rfl

/-- Settles O16: the ports are below every hot-spot, and what scheme `3F` snoops is outside the window. -/
theorem cartridgeRamAndBusTrigger : Obligations.CartridgeRamAndBusTrigger := by
  unfold Obligations.CartridgeRamAndBusTrigger
  refine ⟨fun s addr off ha hs hwf => ?_, fun s addr v hk => ?_⟩
  · have hc : hasCartRam s.map.scheme = true := by
      rcases hs with h | h | h <;> rw [h] <;> rfl
    obtain ⟨hrb, hwb⟩ := access_bank (s := s) ha
    obtain ⟨hrr, hwr⟩ := access_cartRam ha hc
    obtain ⟨hv, hm⟩ := rd_cartridge (s := s) ha
    refine ⟨?_, fun v h k => ?_, fun v h => ?_, fun h => ⟨?_, fun k => ?_⟩, fun h80 h100 => ?_, fun h => ?_⟩
    · rintro ⟨k, first, last⟩ hr hk
      have hw : (s.map.scheme, first, last) ∈ windowHotSpots := hk ▸ List.mem_append_right _ hr
      rw [hotSpot_window hw] at hrb hwb
      refine ⟨hrb, hwb, fun h => ?_⟩
      rw [rd_above_ports ha h, triggered, imageIndex_window hw, hotSpot_window hw]
    · rw [hwr, if_pos h, readCell_writeCell _ _ _ _ hwf]
    · rw [hwr, if_neg (by omega)]
    · rw [hv, mapRead_writePort hc h]
    · rw [hrr, if_pos h, readCell_writeCell _ _ _ _ hwf]
    · rw [hv, hm, mapRead_readPort hc h80 h100]
      exact ⟨rfl, rfl⟩
    · rw [hrr, if_neg (by omega)]
  · refine ⟨wr_bank_s3f hk addr v, fun h => wr_tia v s (decodeBus_tia_of_le h), fun off ha => ?_⟩
    obtain ⟨hv, hm, -⟩ := access_of_noCartRam ha (by rw [hk]; rfl) (b := s.map.bank) (by rw [hk]; rfl)
    exact ⟨hm, by simpa only [imageIndex, hk] using hv⟩

end Sys2Proof.Machine
end

section
/-!
PROOF. Decode and encode agree in both directions: from the instruction by the one lemma about each, from the opcode by
the one cell of the opcode map (rules R140, R141, R143, R281, R285).
-/

namespace Sys2Proof.Laws.Encoding

/-- The encoder, the opcode table and the opcode map agree on every instruction: the lemmas about each, in the order of
the constructors. -/
theorem statement_all (i : Instr) : Statement i := by
  cases i
  exacts [brk, oraIzX _, jam _, sloIzX _, nopZp _ _, oraZp _, aslZp _, sloZp _, php, oraImm _, aslAcc, ancImm _ _,
    nopAbs _ _, oraAbs _ _, aslAbs _ _, sloAbs _ _, bpl _, oraIzY _, sloIzY _, nopZpX _ _, oraZpX _, aslZpX _,
    sloZpX _, clc, oraAbsY _ _, nopImp _, sloAbsY _ _, nopAbsX _ _ _, oraAbsX _ _, aslAbsX _ _, sloAbsX _ _, jsr _ _,
    andIzX _, rlaIzX _, bitZp _, andZp _, rolZp _, rlaZp _, plp, andImm _, rolAcc, bitAbs _ _, andAbs _ _,
    rolAbs _ _, rlaAbs _ _, bmi _, andIzY _, rlaIzY _, andZpX _, rolZpX _, rlaZpX _, sec, andAbsY _ _, rlaAbsY _ _,
    andAbsX _ _, rolAbsX _ _, rlaAbsX _ _, rti, eorIzX _, sreIzX _, eorZp _, lsrZp _, sreZp _, pha, eorImm _, lsrAcc,
    alr _, jmpAbs _ _, eorAbs _ _, lsrAbs _ _, sreAbs _ _, bvc _, eorIzY _, sreIzY _, eorZpX _, lsrZpX _, sreZpX _,
    cli, eorAbsY _ _, sreAbsY _ _, eorAbsX _ _, lsrAbsX _ _, sreAbsX _ _, rts, adcIzX _, rraIzX _, adcZp _, rorZp _,
    rraZp _, pla, adcImm _, rorAcc, arr _, jmpInd _ _, adcAbs _ _, rorAbs _ _, rraAbs _ _, bvs _, adcIzY _, rraIzY _,
    adcZpX _, rorZpX _, rraZpX _, sei, adcAbsY _ _, rraAbsY _ _, adcAbsX _ _, rorAbsX _ _, rraAbsX _ _, nopImm _ _,
    staIzX _, saxIzX _, styZp _, staZp _, stxZp _, saxZp _, dey, txa, ane _, styAbs _ _, staAbs _ _, stxAbs _ _,
    saxAbs _ _, bcc _, staIzY _, shaIzY _, styZpX _, staZpX _, stxZpY _, saxZpY _, tya, staAbsY _ _, txs, tas _ _,
    shy _ _, staAbsX _ _, shx _ _, shaAbsY _ _, ldyImm _, ldaIzX _, ldxImm _, laxIzX _, ldyZp _, ldaZp _, ldxZp _,
    laxZp _, tay, ldaImm _, tax, lxa _, ldyAbs _ _, ldaAbs _ _, ldxAbs _ _, laxAbs _ _, bcs _, ldaIzY _, laxIzY _,
    ldyZpX _, ldaZpX _, ldxZpY _, laxZpY _, clv, ldaAbsY _ _, tsx, las _ _, ldyAbsX _ _, ldaAbsX _ _, ldxAbsY _ _,
    laxAbsY _ _, cpyImm _, cmpIzX _, dcpIzX _, cpyZp _, cmpZp _, decZp _, dcpZp _, iny, cmpImm _, dex, sbx _,
    cpyAbs _ _, cmpAbs _ _, decAbs _ _, dcpAbs _ _, bne _, cmpIzY _, dcpIzY _, cmpZpX _, decZpX _, dcpZpX _, cld,
    cmpAbsY _ _, dcpAbsY _ _, cmpAbsX _ _, decAbsX _ _, dcpAbsX _ _, cpxImm _, sbcIzX _, iscIzX _, cpxZp _, sbcZp _,
    incZp _, iscZp _, inx, sbcImm _, nop, usbc _, cpxAbs _ _, sbcAbs _ _, incAbs _ _, iscAbs _ _, beq _, sbcIzY _,
    iscIzY _, sbcZpX _, incZpX _, iscZpX _, sed, sbcAbsY _ _, iscAbsY _ _, sbcAbsX _ _, incAbsX _ _, iscAbsX _ _]

end Sys2Proof.Laws.Encoding

namespace Sys2Proof.Machine

/-! ### The opcode map, cell by cell -/

/-- Of the two bytes behind an opcode, the ones that an instruction of the mode takes (rule R141 table E-1). -/
def operandBytes (m : Mode) (b1 b2 : Byte) : List Byte := [b1, b2].take (modeLength m - 1)

/-- The cell of an opcode: what it builds is encoded by the opcode and the operand bytes of its mode, and depends on no
other byte (rules R140, R141, R143, R281). -/
structure CellSound (op : Byte) (c : OpcodeCell) : Prop where
  encode : ∀ b1 b2, encode (c.build b1 b2) = op :: operandBytes c.mode b1 b2
  build : ∀ b1 b2, c.build ((operandBytes c.mode b1 b2).getD 0 0x00) ((operandBytes c.mode b1 b2).getD 1 0x00) =
    c.build b1 b2

/-- Every cell of the opcode map is sound at its place.  Each `rfl` reads one cell. -/
theorem opcodeMap_sound : List.Forall₂ CellSound ((List.range' 0 256).map (BitVec.ofNat 8)) opcodeMap := by
  repeat refine .cons ⟨fun _ _ => rfl, fun _ _ => rfl⟩ ?_
  exact .nil

theorem opcodeCell_sound (op : Byte) : CellSound op (opcodeCell op) := by
  have h := opcodeMap_sound.get (i := op.toNat) (by simp [op.isLt]) (by rw [opcodeMap_length]; exact op.isLt)
  simpa [opcodeCell] using h

theorem encode_instrOf (op b1 b2 : Byte) :
    encode (instrOf op b1 b2) = op :: operandBytes (opcodeCell op).mode b1 b2 :=
  (opcodeCell_sound op).encode b1 b2

/-- The instruction depends on the operand bytes of its mode alone. -/
theorem instrOf_congr {op b1 b2 c1 c2 : Byte}
    (h : operandBytes (opcodeCell op).mode b1 b2 = operandBytes (opcodeCell op).mode c1 c2) :
    instrOf op b1 b2 = instrOf op c1 c2 := by
  rw [instrOf, ← (opcodeCell_sound op).build b1 b2, h, (opcodeCell_sound op).build c1 c2, instrOf]

/-! ### Lengths -/

theorem modeLength_cases (m : Mode) : modeLength m = 1 ∨ modeLength m = 2 ∨ modeLength m = 3 := by
  cases m <;> decide

/-- Where the bytes behind the opcode are enough, the operand bytes are the first of them. -/
theorem operandBytes_getD {m : Mode} {l : List Byte} (h : modeLength m ≤ l.length + 1) :
    operandBytes m (l.getD 0 0x00) (l.getD 1 0x00) = l.take (modeLength m - 1) := by
  rw [operandBytes]
  rcases modeLength_cases m with hm | hm | hm <;> rw [hm] at h ⊢
  · rfl
  · match l, h with
    | _ :: _, _ => rfl
  · match l, h with
    | _ :: _ :: _, _ => rfl

theorem operandBytes_length (m : Mode) (b1 b2 : Byte) : (operandBytes m b1 b2).length = modeLength m - 1 := by
  cases m <;> rfl

theorem Form.bytes_length (f : Form) : f.bytes.length = f.length := by
  unfold Form.bytes Form.length
  cases f.mode <;> rfl

/-! ### The decoder -/

theorem decode_of_short {op : Byte} {rest : List Byte} (h : rest.length + 1 < lengthOf op) :
    decode (op :: rest) = .error .truncated :=
  if_pos h

theorem decode_of_whole {op : Byte} {rest : List Byte} (h : lengthOf op ≤ rest.length + 1) :
    decode (op :: rest) =
      .ok (instrOf op (rest.getD 0 0x00) (rest.getD 1 0x00), rest.drop (lengthOf op - 1)) :=
  if_neg (Nat.not_lt.mpr h)

/-- The decoder rejects a list exactly where it ends too early (rules R146, R285). -/
theorem decode_error_iff (op : Byte) (rest : List Byte) :
    (∃ e, decode (op :: rest) = .error e) ↔ rest.length + 1 < lengthOf op := by
  constructor
  · rintro ⟨e, he⟩
    by_contra h
    rw [decode_of_whole (by omega)] at he
    cases he
  · exact fun h => ⟨_, decode_of_short h⟩

/-- Decoding an encoding gives the instruction and the bytes behind it. -/
theorem decode_encode {i : Instr} (hi : i.wellFormed = true) (rest : List Byte) :
    decode (encode i ++ rest) = .ok (i, rest) := by
  obtain ⟨-, -, hb⟩ := Laws.Encoding.statement_all i hi
  generalize i.form.op = op, i.form.b1 = b1, i.form.b2 = b2 at hb
  subst hb
  have hlen := operandBytes_length (opcodeCell op).mode b1 b2
  have hwhole : lengthOf op ≤ (operandBytes (opcodeCell op).mode b1 b2 ++ rest).length + 1 := by
    rw [List.length_append, hlen, lengthOf]
    omega
  rw [encode_instrOf, List.cons_append, decode_of_whole hwhole, lengthOf, List.drop_left' hlen,
    instrOf_congr ((operandBytes_getD hwhole).trans (List.take_left' hlen))]

/-- What the decoder accepts is well-formed and is its own encoding. -/
theorem encode_of_decode {bytes rest : List Byte} {i : Instr} (h : decode bytes = .ok (i, rest)) :
    i.wellFormed = true ∧ bytes = encode i ++ rest := by
  cases bytes with
  | nil => cases h
  | cons op l =>
    by_cases hs : l.length + 1 < lengthOf op
    · rw [decode_of_short hs] at h
      cases h
    · rw [decode_of_whole (by omega)] at h
      cases h
      refine ⟨instrOf_wellFormed _ _ _, ?_⟩
      rw [encode_instrOf, operandBytes_getD (by rw [lengthOf] at hs; omega), lengthOf, List.cons_append,
        List.take_append_drop]

/-- The encoding is the bytes of the row, as many as its opcode says (rules R140, R141). -/
theorem encode_row {i : Instr} (hi : i.wellFormed = true) :
    encode i = i.form.bytes ∧ (encode i).length = i.form.length ∧ lengthOf i.form.op = i.form.length := by
  obtain ⟨he, hm, -⟩ := Laws.Encoding.statement_all i hi
  exact ⟨he, by rw [he, Form.bytes_length], by rw [lengthOf, hm, Form.length]⟩

/-- Settles O1: the instruction lemmas give one direction, the cells of the opcode map the other. -/
theorem decodeAndEncodeAgree : Obligations.DecodeAndEncodeAgree := by
  unfold Obligations.DecodeAndEncodeAgree
  exact ⟨fun _ rest hi => decode_encode hi rest, fun _ _ _ => encode_of_decode, decode_error_iff,
    fun _ => encode_row⟩

/-- Settles O2: the decoder on thirteen closed words. -/
theorem writtenWordsDecode : Obligations.WrittenWordsDecode := by
  unfold Obligations.WrittenWordsDecode
  decide

end Sys2Proof.Machine
end

section
/-!
PROOF. Effective addresses and the operand of class read, by addressing mode (rules R142, R148 to R157).
-/

namespace Sys2Proof.Machine

/-! ### Sums of bytes as addresses -/

theorem zext_ofNat (b : Byte) : zext b = BitVec.ofNat 16 b.toNat := (BitVec.ofNat_toNat 16 b).symm

/-- A sum of bytes wraps inside page 0 (rule R150). -/
theorem zext_add (a b : Byte) : zext (a + b) = BitVec.ofNat 16 ((a.toNat + b.toNat) % 256) := by
  rw [zext_ofNat, BitVec.toNat_add]

/-- The byte after a sum wraps inside page 0 too (rule R155). -/
theorem zext_add_add_one (a b : Byte) : zext (a + b + 1) = BitVec.ofNat 16 ((a.toNat + b.toNat + 1) % 256) := by
  rw [zext_add, BitVec.toNat_add, ← Nat.mod_add_mod (a.toNat + b.toNat)]
  rfl

theorem word_ofNat (hi lo : Byte) : word hi lo = BitVec.ofNat 16 (hi.toNat * 256 + lo.toNat) := by
  rw [← word_toNat, BitVec.ofNat_toNat, BitVec.setWidth_eq]

/-- An indexed address is a sum modulo 65536 (rule R152). -/
theorem indexed_word (hi lo i : Byte) :
    indexed (word hi lo) i = BitVec.ofNat 16 (hi.toNat * 256 + lo.toNat + i.toNat) := by
  rw [indexed, word_ofNat, zext_ofNat, ← BitVec.ofNat_add]

/-! ### Pointers in RAM -/

theorem fetches_reads (n : Nat) (pc : Word) : ∀ a v, .write a v ∉ fetches n pc := by
  induction n generalizing pc with
  | zero => simp [fetches]
  | succ n ih => simp [fetches, ih]

theorem fetchCycles_ram (n : Nat) (s : State) : (fetchCycles n s).ram = s.ram := by
  rw [fetchCycles_cycles, State.setCpu_ram, busCycles_ram_of_reads _ s (fetches_reads n _)]

theorem fetchCycles_x (n : Nat) (s : State) : (fetchCycles n s).cpu.x = s.cpu.x := by
  rw [fetchCycles_cycles]
  rfl

section pointers

variable {s : State} {b1 : Byte} {j k : BitVec 7}

/-- Two reads of RAM, one after the other. -/
theorem word_rd_rd_of_ram {lo hi : Word} (hj : decodeBus (busAddr lo) = .ram j) (hk : decodeBus (busAddr hi) = .ram k) :
    word (rd hi (rd lo s).2).1 (rd lo s).1 = word (readCell s.ram k.toNat) (readCell s.ram j.toNat) := by
  rw [rd_ram_value _ hk, rd_ram_value _ hj, rd_ram]

/-- The address of mode `izx` where both pointer bytes are in RAM (rule R155). -/
theorem addrIzX_of_ram (hj : decodeBus (busAddr (zext (b1 + s.cpu.x))) = .ram j)
    (hk : decodeBus (busAddr (zext (b1 + s.cpu.x + 1))) = .ram k) :
    (addrIzX b1 s).1 = word (readCell s.ram k.toNat) (readCell s.ram j.toNat) := by
  have hx : (dummyRead (zext b1) (fetchCycles 2 s)).cpu.x = s.cpu.x := by
    rw [dummyRead, rd_cpu, fetchCycles_x]
  have hr : (dummyRead (zext b1) (fetchCycles 2 s)).ram = s.ram := by
    rw [dummyRead, rd_ram, fetchCycles_ram]
  simp only [addrIzX, hx]
  rw [word_rd_rd_of_ram hj hk, hr]

/-- The base address of mode `izy` where both pointer bytes are in RAM (rule R156). -/
theorem pointerIzY_of_ram (hj : decodeBus (busAddr (zext b1)) = .ram j)
    (hk : decodeBus (busAddr (zext (b1 + 1))) = .ram k) :
    (pointerIzY b1 s).1 = word (readCell s.ram k.toNat) (readCell s.ram j.toNat) := by
  simp only [pointerIzY]
  rw [word_rd_rd_of_ram hj hk, fetchCycles_ram]

end pointers

/-! ### The operand -/

/-- The cycles before the access only read. -/
theorem leadCycles_reads (f : Form) (s : State) : ∀ a v, .write a v ∉ f.leadCycles s := by
  unfold Form.leadCycles
  cases f.mode <;> simp [fetches_reads]

section operand

variable {f : Form} {s : State}

/-- The operand of class read is what a read at the effective address returns, after cycles that only read: the last
cycle is at `t` only where this is the effective address (rules R148 to R157). -/
theorem operand_eq_rd (h : f.mode ≠ .imm) :
    ∃ l : List BusCycle, (∀ a v, .write a v ∉ l) ∧ f.operand s = (rd (f.effAddr s) (busCycles l s)).1 := by
  have ho : f.operand s = (busCycles (f.leadCycles s ++ .read (f.partialAddr s) ::
      if f.crosses s then [.read (f.effAddr s)] else []) s).dbus := by
    cases hm : f.mode with
    | imm => exact absurd hm h
    | imp | acc | zp | zpx | zpy | abs | abx | aby | izx | izy | rel | ind =>
      simp only [Form.operand, Form.readCycles, hm]
  cases hc : f.crosses s with
  | false =>
    have he : f.partialAddr s = f.effAddr s := by simpa [Form.crosses] using hc
    refine ⟨f.leadCycles s, leadCycles_reads f s, ?_⟩
    rw [ho, rd_busCycles, hc, he]
    rfl
  | true =>
    refine ⟨f.leadCycles s ++ [.read (f.partialAddr s)], by simp [leadCycles_reads], ?_⟩
    rw [ho, rd_busCycles, hc, List.append_assoc]
    rfl

theorem operand_of_ram {k : BitVec 7} (h : f.mode ≠ .imm) (hk : decodeBus (busAddr (f.effAddr s)) = .ram k) :
    f.operand s = readCell s.ram k.toNat := by
  obtain ⟨l, hl, ho⟩ := operand_eq_rd (s := s) h
  rw [ho, rd_ram_value _ hk, busCycles_ram_of_reads l s hl]

theorem operand_of_plain4k {off : BitVec 12} (h : f.mode ≠ .imm) (hp : s.map.scheme = .plain4k)
    (ha : decodeBus (busAddr (f.effAddr s)) = .cartridge off) : f.operand s = readCell s.map.rom off.toNat := by
  obtain ⟨l, -, ho⟩ := operand_eq_rd (s := s) h
  rw [ho, rd_busCycles_plain (.inr hp) ha]
  simp only [imageIndex, hp]

end operand

/-- Settles O18: the addresses are sums of bytes and words, the pointers are read from RAM, and the operand is read at
the effective address. -/
theorem operandsByAddressingMode : Obligations.OperandsByAddressingMode := by
  unfold Obligations.OperandsByAddressingMode
  intro f s
  refine ⟨fun h => ?_, fun h => ?_, fun h => ?_, fun h => ?_, fun h => ?_, fun h => ?_, fun h j k hj hk => ?_,
    fun h j k hj hk => ?_, fun h => ?_, fun h => ?_⟩
  · simp only [Form.effAddr, h, addrZp]
  · simp only [Form.effAddr, h, addrZpIndexed, zext_add]
  · simp only [Form.effAddr, h, addrZpIndexed, zext_add]
  · simp only [Form.effAddr, h, addrAbs, word_ofNat]
  · simp only [Form.effAddr, h, addrAbsX, addrIndexed, addrAbs, indexed_word]
  · simp only [Form.effAddr, h, addrAbsY, addrIndexed, addrAbs, indexed_word]
  · rw [← zext_add] at hj
    rw [← zext_add_add_one] at hk
    simp only [Form.effAddr, h]
    exact addrIzX_of_ram hj hk
  · have hn : zext (f.b1 + 1) = BitVec.ofNat 16 ((f.b1.toNat + 1) % 256) := zext_add f.b1 1
    rw [← hn] at hk
    simp only [Form.effAddr, h, addrIzY, addrIndexed, indexed, pointerIzY_of_ram hj hk]
    rfl
  · simp only [Form.operand, h]
  · have hm : f.mode ≠ .imm := by
      intro hi
      simp [hi] at h
    exact ⟨fun k hk => operand_of_ram hm hk, fun off hp ha => operand_of_plain4k hm hp ha⟩

end Sys2Proof.Machine
end

section
/-!
PROOF. The branches: the cycles they make and where they go (rules R158, R241 to R249).
-/

namespace Sys2Proof.Machine

/-- The branch instructions with displacement `d`: the opcode of each, and its condition on the flags (rules R242 to
R249). -/
def branchRows (d : Byte) (p : Flags) : List (Instr × Byte × Bool) :=
  [(.bcc d, 0x90, !p.c), (.bcs d, 0xB0, p.c), (.beq d, 0xF0, p.z), (.bne d, 0xD0, !p.z),
   (.bmi d, 0x30, p.n), (.bpl d, 0x10, !p.n), (.bvc d, 0x50, !p.v), (.bvs d, 0x70, p.v)]

section branches

variable (d : Byte) (s : State)

/-- Each is the shared operation under its own condition.  The `rfl`s read its encoding and its arm of `exec`. -/
theorem exec_branchRows : ∀ row ∈ branchRows d s.cpu.p,
    encode row.1 = [row.2.1, d] ∧ exec row.1 s = complete row.2.1 s (branch row.2.2 d s) := by
  simp only [branchRows, List.forall_mem_cons]
  exact ⟨⟨rfl, rfl⟩, ⟨rfl, rfl⟩, ⟨rfl, rfl⟩, ⟨rfl, rfl⟩, ⟨rfl, rfl⟩, ⟨rfl, rfl⟩, ⟨rfl, rfl⟩, ⟨rfl, rfl⟩,
    List.forall_mem_nil _⟩

/-- The target of a branch is the address of the next instruction plus the signed displacement (rule R158). -/
theorem next_add_sext (pc : Word) : pc + 2 + sext d = pc + BitVec.ofInt 16 (2 + d.toInt) := by
  rw [BitVec.ofInt_add, ← BitVec.add_assoc]
  rfl

/-- The cycles of a branch only read. -/
theorem branchCycles_reads (taken : Bool) : ∀ a v, .write a v ∉ branchCycles taken d s := by
  unfold branchCycles
  dsimp only
  repeat' split
  all_goals simp [fetches_reads]

/-- A branch completes, and replaces the program counter alone (rules R158, R241). -/
theorem complete_branch (op : Byte) (taken : Bool) (hf : s.fault = none) :
    complete op s (branch taken d s) = .next ((busCycles (branchCycles taken d s) s).setCpu
      { s.cpu with pc := if taken then s.cpu.pc + BitVec.ofInt 16 (2 + d.toInt) else s.cpu.pc + 2 }) := by
  rw [branch_cycles, next_add_sext, complete_cycles _ _ hf (quiet_of_reads (branchCycles_reads d s taken) s)]

end branches

/-- Settles O31: the cycles of a branch by its condition and by the page of its target. -/
theorem branchResult : Obligations.BranchResult := by
  unfold Obligations.BranchResult
  intro s d hf p next target row hr
  obtain ⟨henc, hexec⟩ := exec_branchRows d s row hr
  rw [hexec, complete_branch d s _ _ hf, branchCycles, next_add_sext]
  obtain ⟨i, op, taken⟩ := row
  cases taken with
  | false => exact ⟨henc, fun _ => rfl, nofun, nofun⟩
  | true =>
    refine ⟨henc, nofun, fun _ hp => ?_, fun _ hp => ?_⟩
    · rw [if_pos hp]
      rfl
    · rw [if_neg hp]
      rfl

end Sys2Proof.Machine
end

section
/-!
PROOF. Loads and stores in every mode: their rows, their cycles and the state they leave (rules R171 to R176).
-/

namespace Sys2Proof.Machine

/-! ### Documented instructions of class read -/

/-- The documented mnemonics of class read (rules R171 to R173, R201, R202, R204 to R210). -/
def Mnemonic.readsOperand : Mnemonic → Bool
  | .lda | .ldx | .ldy | .adc | .sbc | .and | .ora | .eor | .cmp | .cpx | .cpy | .bit => true
  | _ => false

/-- The operand of class read, with the state after its cycles (rules R148 to R152, R155, R156). -/
def Form.readOperand (f : Form) (s : State) : Byte × State :=
  (f.operand s, (busCycles (f.readCycles s) s).setCpu { s.cpu with pc := f.nextPc s })

/-- The cycles of class read only read. -/
theorem readCycles_reads (f : Form) (s : State) : ∀ a v, .write a v ∉ f.readCycles s := by
  unfold Form.readCycles
  cases f.mode with
  | imm => exact leadCycles_reads f s
  | imp | acc | zp | zpx | zpy | abs | abx | aby | izx | izy | rel | ind =>
    cases f.crosses s <;> simp [leadCycles_reads]

section classes

variable {i : Instr} {s : State}

/-- The row's cycles, and one more on a page crossing (rule R145). -/
theorem readCycles_cost (h : i.form.name.readsOperand = true) (s : State) :
    (i.form.readCycles s).length = i.form.cycles + (i.form.crosses s).toNat := by
  have hl := ownCycles_length i s
  unfold Form.ownCycles Instr.penalty at hl
  cases hn : i.form.name with
  | lda | ldx | ldy | adc | sbc | and | ora | eor | cmp | cpx | cpy | bit =>
    rw [hn] at hl
    exact hl rfl
  | _ =>
    rw [hn] at h
    cases h

/-- An operation on an operand replaces registers, and the cycles that read the operand do not raise. -/
theorem exec_read_of_eq {r : Byte × State} (hf : s.fault = none) (hr : r = i.form.readOperand s)
    (he : exec i s = complete i.form.op s (i.form.name.operandOp r)) :
    exec i s = .next (i.form.name.operandOp (i.form.readOperand s)) := by
  obtain ⟨c, hc⟩ := operandOp_setCpu i.form.name (i.form.readOperand s)
  rw [he, hr, hc]
  exact complete_cycles _ c hf (quiet_of_reads (readCycles_reads _ s) s)

/-- A documented instruction of class read answers its operation on its operand: one case for each addressing mode.
The `rfl`s read the row of the instruction and its arm of `exec`. -/
theorem exec_read (h : i.form.name.readsOperand = true) (hf : s.fault = none) :
    exec i s = .next (i.form.name.operandOp (i.form.readOperand s)) := by
  cases i with
  | oraImm b1 | andImm b1 | eorImm b1 | adcImm b1 | ldyImm b1 | ldxImm b1 | ldaImm b1 | cpyImm b1 | cmpImm b1
  | cpxImm b1 | sbcImm b1 => exact exec_read_of_eq hf (readImm_cycles _ s rfl) rfl
  | oraZp b1 | bitZp b1 | andZp b1 | eorZp b1 | adcZp b1 | ldyZp b1 | ldaZp b1 | ldxZp b1 | cpyZp b1 | cmpZp b1
  | cpxZp b1 | sbcZp b1 => exact exec_read_of_eq hf (readZp_cycles _ s rfl) rfl
  | oraZpX b1 | andZpX b1 | eorZpX b1 | adcZpX b1 | ldyZpX b1 | ldaZpX b1 | cmpZpX b1 | sbcZpX b1 =>
    exact exec_read_of_eq hf (readZpX_cycles _ s rfl) rfl
  | ldxZpY b1 => exact exec_read_of_eq hf (readZpY_cycles _ s rfl) rfl
  | oraAbs lo hi | bitAbs lo hi | andAbs lo hi | eorAbs lo hi | adcAbs lo hi | ldyAbs lo hi | ldaAbs lo hi
  | ldxAbs lo hi | cpyAbs lo hi | cmpAbs lo hi | cpxAbs lo hi | sbcAbs lo hi =>
    exact exec_read_of_eq hf (readAbs_cycles _ s rfl) rfl
  | oraAbsX lo hi | andAbsX lo hi | eorAbsX lo hi | adcAbsX lo hi | ldyAbsX lo hi | ldaAbsX lo hi | cmpAbsX lo hi
  | sbcAbsX lo hi => exact exec_read_of_eq hf (readAbsX_cycles _ s rfl) rfl
  | oraAbsY lo hi | andAbsY lo hi | eorAbsY lo hi | adcAbsY lo hi | ldaAbsY lo hi | ldxAbsY lo hi | cmpAbsY lo hi
  | sbcAbsY lo hi => exact exec_read_of_eq hf (readAbsY_cycles _ s rfl) rfl
  | oraIzX b1 | andIzX b1 | eorIzX b1 | adcIzX b1 | ldaIzX b1 | cmpIzX b1 | sbcIzX b1 =>
    exact exec_read_of_eq hf (readIzX_cycles _ s rfl) rfl
  | oraIzY b1 | andIzY b1 | eorIzY b1 | adcIzY b1 | ldaIzY b1 | cmpIzY b1 | sbcIzY b1 =>
    exact exec_read_of_eq hf (readIzY_cycles _ s rfl) rfl
  | _ => cases h

/-! ### Documented instructions of class write -/

theorem exec_write_of_eq {e : Word × State}
    (he : e = (i.form.effAddr s, (busCycles (i.form.addressCycles s) s).setCpu { s.cpu with pc := i.form.nextPc s }))
    (hx : exec i s = complete i.form.op s (storeAt (i.form.name.stored s.cpu) e)) :
    exec i s = complete i.form.op s ((busCycles (i.form.writeCycles (i.form.name.stored s.cpu) s) s).setCpu
      { s.cpu with pc := i.form.nextPc s }) := by
  rw [hx, storeAt_cycles _ s _ he]

/-- A store makes the cycles of class write, and replaces the program counter alone: one case for each addressing
mode.  The `rfl`s read the row of the instruction and its arm of `exec`. -/
theorem exec_write (s : State) (h : [Mnemonic.sta, .stx, .sty].contains i.form.name = true) :
    exec i s = complete i.form.op s ((busCycles (i.form.writeCycles (i.form.name.stored s.cpu) s) s).setCpu
      { s.cpu with pc := i.form.nextPc s }) := by
  cases i with
  | styZp b1 | staZp b1 | stxZp b1 => exact exec_write_of_eq (addrZp_cycles _ s rfl) rfl
  | styZpX b1 | staZpX b1 => exact exec_write_of_eq (addrZpX_cycles _ s rfl) rfl
  | stxZpY b1 => exact exec_write_of_eq (addrZpY_cycles _ s rfl) rfl
  | styAbs lo hi | staAbs lo hi | stxAbs lo hi => exact exec_write_of_eq (addrAbs_cycles _ s rfl) rfl
  | staAbsX lo hi => exact exec_write_of_eq (addrAbsX_cycles _ s rfl) rfl
  | staAbsY lo hi => exact exec_write_of_eq (addrAbsY_cycles _ s rfl) rfl
  | staIzX b1 => exact exec_write_of_eq (addrIzX_cycles _ s rfl) rfl
  | staIzY b1 => exact exec_write_of_eq (addrIzY_cycles _ s rfl) rfl
  | _ => cases h

/-- The row's cycles, for any byte stored (rule R145). -/
theorem writeCycles_cost (h : [Mnemonic.sta, .stx, .sty].contains i.form.name = true) (v : Byte) (s : State) :
    (i.form.writeCycles v s).length = i.form.cycles := by
  have hl := ownCycles_length i s
  unfold Form.ownCycles Instr.penalty at hl
  rw [writeCycles_length]
  cases hn : i.form.name with
  | sta | stx | sty =>
    simp only [hn, writeCycles_length] at hl
    exact hl rfl
  | _ =>
    rw [hn] at h
    cases h

end classes

/-! ### The rows -/

/-- The rows of the loads and stores in the opcode table: opcode byte, mode and cycles (rules R171 to R176). -/
def Mnemonic.loadStoreRows : Mnemonic → List (Byte × Mode × Nat)
  | .lda => [(0xA9, .imm, 2), (0xA5, .zp, 3), (0xB5, .zpx, 4), (0xAD, .abs, 4), (0xBD, .abx, 4), (0xB9, .aby, 4),
      (0xA1, .izx, 6), (0xB1, .izy, 5)]
  | .ldx => [(0xA2, .imm, 2), (0xA6, .zp, 3), (0xB6, .zpy, 4), (0xAE, .abs, 4), (0xBE, .aby, 4)]
  | .ldy => [(0xA0, .imm, 2), (0xA4, .zp, 3), (0xB4, .zpx, 4), (0xAC, .abs, 4), (0xBC, .abx, 4)]
  | .sta => [(0x85, .zp, 3), (0x95, .zpx, 4), (0x8D, .abs, 4), (0x9D, .abx, 5), (0x99, .aby, 5), (0x81, .izx, 6),
      (0x91, .izy, 6)]
  | .stx => [(0x86, .zp, 3), (0x96, .zpy, 4), (0x8E, .abs, 4)]
  | .sty => [(0x84, .zp, 3), (0x94, .zpx, 4), (0x8C, .abs, 4)]
  | _ => []

/-- Every load and store is one of the rows of its mnemonic, and is encoded by that row.  The `rfl`s read the row of
the instruction and its encoding. -/
theorem isRow_loadStoreRows {i : Instr} {n : Mnemonic} (h : i.form.name = n)
    (hn : [Mnemonic.lda, .ldx, .ldy, .sta, .stx, .sty].contains n = true) : i.IsRow n.loadStoreRows := by
  subst h
  cases i with
  | ldaImm | ldaZp | ldaZpX | ldaAbs | ldaAbsX | ldaAbsY | ldaIzX | ldaIzY
  | ldxImm | ldxZp | ldxZpY | ldxAbs | ldxAbsY | ldyImm | ldyZp | ldyZpX | ldyAbs | ldyAbsX
  | staZp | staZpX | staAbs | staAbsX | staAbsY | staIzX | staIzY | stxZp | stxZpY | stxAbs | styZp | styZpX
  | styAbs => exact ⟨List.contains_iff_mem.mp rfl, rfl⟩
  | _ => cases hn

/-! ### The obligations -/

/-- A load is a row of its mnemonic, costs the row's cycles and the page crossing's, and answers its operation on the
operand of class read. -/
theorem load_row_cost_exec {i : Instr} {s : State} {n : Mnemonic} (hf : s.fault = none)
    (hl : [Mnemonic.lda, .ldx, .ldy].contains n = true) (h : i.form.name = n) :
    i.IsRow n.loadStoreRows ∧ (i.form.readCycles s).length = i.form.cycles + (i.form.crosses s).toNat ∧
    exec i s = .next (n.operandOp (i.form.readOperand s)) := by
  simp only [List.contains_iff_mem, List.mem_cons, List.not_mem_nil, or_false] at hl
  have hr : i.form.name.readsOperand = true := by
    rw [h]
    rcases hl with rfl | rfl | rfl <;> rfl
  have hn : [Mnemonic.lda, .ldx, .ldy, .sta, .stx, .sty].contains n = true := by
    rcases hl with rfl | rfl | rfl <;> rfl
  exact ⟨isRow_loadStoreRows h hn, readCycles_cost hr s, h ▸ exec_read hr hf⟩

/-- Settles O19: the three loads, each with its operation `loadA`, `loadX` or `loadY`. -/
theorem loadResult : Obligations.LoadResult := by
  unfold Obligations.LoadResult
  intro i s hf f m u cost
  exact ⟨load_row_cost_exec hf rfl, load_row_cost_exec hf rfl, load_row_cost_exec hf rfl⟩

/-- Settles O20: a store writes its register in the last cycle of class write. -/
theorem storeResult : Obligations.StoreResult := by
  unfold Obligations.StoreResult
  intro i s v hf f hv l
  have hs : [Mnemonic.sta, .stx, .sty].contains f.name = true ∧ v = f.name.stored s.cpu := by
    rcases hv with ⟨hn, hv⟩ | ⟨hn, hv⟩ | ⟨hn, hv⟩ <;> rw [hn] <;> exact ⟨rfl, hv⟩
  obtain ⟨hn, rfl⟩ := hs
  refine ⟨fun h => isRow_loadStoreRows h rfl, fun h => isRow_loadStoreRows h rfl, fun h => isRow_loadStoreRows h rfl,
    writeCycles_cost hn _ s, List.getLast?_concat, fun hq => ?_⟩
  rw [exec_write s hn]
  exact complete_cycles _ _ hf hq

end Sys2Proof.Machine
end

section
/-!
PROOF. Register transfers and the stack instructions (rules R177 to R186).
-/

namespace Sys2Proof.Machine

section implied

variable {i : Instr} {s : State}

theorem impliedList_reads (s : State) : ∀ a v, .write a v ∉ impliedList s := by
  simp [impliedList]

/-- An implied instruction that replaces the registers `c`, `PC` behind it, by `g c` (rule R147). -/
theorem exec_implied (g : Cpu → Cpu) (hf : s.fault = none)
    (he : exec i s = complete i.form.op s ((impliedCycles s).setCpu (g (impliedCycles s).cpu))) :
    exec i s = .next ((busCycles (impliedList s) s).setCpu (g { s.cpu with pc := s.cpu.pc + 1 })) := by
  rw [he, impliedCycles_cycles]
  exact complete_cycles _ _ hf (quiet_of_reads (impliedList_reads s) s)

/-- A push writes at the stack pointer and then decrements it (rules R22, R183, R184). -/
theorem exec_push {v : Byte} (hf : s.fault = none)
    (he : exec i s = complete i.form.op s (push v (impliedCycles s)))
    (hq : Quiet (impliedList s ++ [.write (stackByte s.cpu.sp) v]) s) :
    exec i s = .next ((busCycles (impliedList s ++ [.write (stackByte s.cpu.sp) v]) s).setCpu
      { s.cpu with pc := s.cpu.pc + 1, sp := s.cpu.sp - 1 }) := by
  rw [he, impliedCycles_cycles, push_cycles]
  exact complete_cycles _ _ hf hq

/-- PLA pulls into `A`, with N and Z of the byte pulled (rule R185). -/
theorem exec_pla (hf : s.fault = none) :
    exec .pla s = .next ((busCycles (impliedList s ++ pullCycles 1 s.cpu.sp) s).setCpu
      (let m := (busCycles (impliedList s ++ pullCycles 1 s.cpu.sp) s).dbus
       { s.cpu with pc := s.cpu.pc + 1, sp := s.cpu.sp + 1, a := m, p := withNZ s.cpu.p m })) := by
  have he : exec .pla s = complete 0x68 s (loadA (pull (stackIdle (impliedCycles s)))) := rfl
  rw [he, impliedCycles_cycles, stackIdle_cycles, pull_cycles]
  exact complete_cycles _ _ hf (quiet_of_reads (by simp [impliedList_reads]) s)

/-- PLP pulls into the six flags (rule R186). -/
theorem exec_plp (hf : s.fault = none) :
    exec .plp s = .next ((busCycles (impliedList s ++ pullCycles 1 s.cpu.sp) s).setCpu
      { s.cpu with
        pc := s.cpu.pc + 1
        sp := s.cpu.sp + 1
        p := flagsOf (busCycles (impliedList s ++ pullCycles 1 s.cpu.sp) s).dbus }) := by
  have he : exec .plp s = complete 0x28 s (pullFlags (stackIdle (impliedCycles s))) := rfl
  rw [he, pullFlags_cycles]
  exact complete_cycles _ _ hf (quiet_of_reads (by simp [impliedList_reads, pullCycles_reads]) s)

end implied

theorem stackByte_ofNat (sp : Byte) : stackByte sp = BitVec.ofNat 16 (0x0100 + sp.toNat) := word_ofNat 0x01 sp

/-- Bits 5 and 4 of the status byte are set whatever the flags (rules R24, R184). -/
theorem statusByte_fixed_bits (p : Flags) : (statusByte p).getLsbD 5 = true ∧ (statusByte p).getLsbD 4 = true := by
  simp [statusByte]

/-- Settles O21: each is an implied instruction that copies one register. -/
theorem transferResult : Obligations.TransferResult := by
  unfold Obligations.TransferResult
  intro s hf u c
  exact ⟨exec_implied (fun c => { c with x := c.a, p := withNZ c.p c.a }) hf rfl,
    exec_implied (fun c => { c with y := c.a, p := withNZ c.p c.a }) hf rfl,
    exec_implied (fun c => { c with a := c.x, p := withNZ c.p c.x }) hf rfl,
    exec_implied (fun c => { c with a := c.y, p := withNZ c.p c.y }) hf rfl,
    exec_implied (fun c => { c with x := c.sp, p := withNZ c.p c.sp }) hf rfl,
    exec_implied (fun c => { c with sp := c.x }) hf rfl, rfl, rfl, rfl, rfl, rfl, rfl⟩

/-- Settles O22: the pushes and pulls by their cycles, the status byte by the flags it holds. -/
theorem stackResult : Obligations.StackResult := by
  unfold Obligations.StackResult
  refine ⟨fun s hf => ?_, fun p => ?_, rfl, rfl, rfl, rfl⟩
  · simp only [← stackByte_ofNat]
    exact ⟨exec_push hf rfl, exec_push hf rfl, exec_pla hf, exec_plp hf⟩
  · have hp := flagsOf_statusByte p
    obtain ⟨h5, h4⟩ := statusByte_fixed_bits p
    exact ⟨congrArg Flags.n hp, congrArg Flags.v hp, h5, h4, congrArg Flags.d hp, congrArg Flags.i hp,
      congrArg Flags.z hp, congrArg Flags.c hp⟩

end Sys2Proof.Machine
end

section
/-!
PROOF. The rows of class read; ADC and SBC in binary and in decimal, in every mode (rules R201 to R203, R221).
-/

namespace Sys2Proof.Machine

/-! ### The rows of class read -/

/-- The rows of the mnemonics of class read in the opcode table: opcode byte, mode and cycles (rules R171 to R173, R201,
R202, R204 to R210). -/
def Mnemonic.operandRows : Mnemonic → List (Byte × Mode × Nat)
  | .adc => [(0x69, .imm, 2), (0x65, .zp, 3), (0x75, .zpx, 4), (0x6D, .abs, 4), (0x7D, .abx, 4), (0x79, .aby, 4),
      (0x61, .izx, 6), (0x71, .izy, 5)]
  | .sbc => [(0xE9, .imm, 2), (0xE5, .zp, 3), (0xF5, .zpx, 4), (0xED, .abs, 4), (0xFD, .abx, 4), (0xF9, .aby, 4),
      (0xE1, .izx, 6), (0xF1, .izy, 5)]
  | .and => [(0x29, .imm, 2), (0x25, .zp, 3), (0x35, .zpx, 4), (0x2D, .abs, 4), (0x3D, .abx, 4), (0x39, .aby, 4),
      (0x21, .izx, 6), (0x31, .izy, 5)]
  | .ora => [(0x09, .imm, 2), (0x05, .zp, 3), (0x15, .zpx, 4), (0x0D, .abs, 4), (0x1D, .abx, 4), (0x19, .aby, 4),
      (0x01, .izx, 6), (0x11, .izy, 5)]
  | .eor => [(0x49, .imm, 2), (0x45, .zp, 3), (0x55, .zpx, 4), (0x4D, .abs, 4), (0x5D, .abx, 4), (0x59, .aby, 4),
      (0x41, .izx, 6), (0x51, .izy, 5)]
  | .cmp => [(0xC9, .imm, 2), (0xC5, .zp, 3), (0xD5, .zpx, 4), (0xCD, .abs, 4), (0xDD, .abx, 4), (0xD9, .aby, 4),
      (0xC1, .izx, 6), (0xD1, .izy, 5)]
  | .cpx => [(0xE0, .imm, 2), (0xE4, .zp, 3), (0xEC, .abs, 4)]
  | .cpy => [(0xC0, .imm, 2), (0xC4, .zp, 3), (0xCC, .abs, 4)]
  | .bit => [(0x24, .zp, 3), (0x2C, .abs, 4)]
  | n => n.loadStoreRows

/-- Every documented instruction of class read is one of the rows of its mnemonic, and is encoded by that row.  The
`rfl`s read the row of the instruction and its encoding. -/
theorem isRow_operandRows {i : Instr} (h : i.form.name.readsOperand = true) : i.IsRow i.form.name.operandRows := by
  cases i with
  | ldaImm | ldaZp | ldaZpX | ldaAbs | ldaAbsX | ldaAbsY | ldaIzX | ldaIzY | ldxImm | ldxZp | ldxZpY | ldxAbs
  | ldxAbsY | ldyImm | ldyZp | ldyZpX | ldyAbs | ldyAbsX
  | adcImm | adcZp | adcZpX | adcAbs | adcAbsX | adcAbsY | adcIzX | adcIzY
  | sbcImm | sbcZp | sbcZpX | sbcAbs | sbcAbsX | sbcAbsY | sbcIzX | sbcIzY
  | andImm | andZp | andZpX | andAbs | andAbsX | andAbsY | andIzX | andIzY
  | oraImm | oraZp | oraZpX | oraAbs | oraAbsX | oraAbsY | oraIzX | oraIzY
  | eorImm | eorZp | eorZpX | eorAbs | eorAbsX | eorAbsY | eorIzX | eorIzY
  | cmpImm | cmpZp | cmpZpX | cmpAbs | cmpAbsX | cmpAbsY | cmpIzX | cmpIzY
  | cpxImm | cpxZp | cpxAbs | cpyImm | cpyZp | cpyAbs | bitZp | bitAbs =>
    exact ⟨List.contains_iff_mem.mp rfl, rfl⟩
  | _ => cases h

/-- A documented instruction of class read is a row of its mnemonic, costs the row's cycles and the page crossing's, and
answers its operation on its operand. -/
theorem read_row_cost_exec {i : Instr} {s : State} {n : Mnemonic} (hf : s.fault = none) (hn : n.readsOperand = true)
    (h : i.form.name = n) :
    i.IsRow n.operandRows ∧ (i.form.readCycles s).length = i.form.cycles + (i.form.crosses s).toNat ∧
    exec i s = .next (n.operandOp (i.form.readOperand s)) := by
  subst h
  exact ⟨isRow_operandRows hn, readCycles_cost hn s, exec_read hn hf⟩

/-! ### The state after ADC and SBC -/

/-- The state after the cycles of class read, with `A` and the flags of an ALU result. -/
def Form.afterAlu (f : Form) (r : Alu) (s : State) : State :=
  (busCycles (f.readCycles s) s).setCpu { s.cpu with a := r.value, pc := f.nextPc s, p := r.p }

theorem adc_readOperand (f : Form) (s : State) :
    adc (f.readOperand s) = f.afterAlu (addWithCarry s.par s.cpu.a (f.operand s) s.cpu.p) s := by
  simp only [adc, Form.readOperand, State.setAlu_eq, State.setCpu_par, State.setCpu_cpu, State.setCpu_setCpu,
    busCycles_par, Form.afterAlu]

theorem sbc_readOperand (f : Form) (s : State) :
    sbc (f.readOperand s) = f.afterAlu (subWithBorrow s.par s.cpu.a (f.operand s) s.cpu.p) s := by
  simp only [sbc, Form.readOperand, State.setAlu_eq, State.setCpu_par, State.setCpu_cpu, State.setCpu_setCpu,
    busCycles_par, Form.afterAlu]

section exec

variable {i : Instr} {s : State}

theorem exec_adc (hf : s.fault = none) (h : i.form.name = .adc) :
    exec i s = .next (i.form.afterAlu (addWithCarry s.par s.cpu.a (i.form.operand s) s.cpu.p) s) := by
  obtain ⟨-, -, he⟩ := read_row_cost_exec hf rfl h
  rw [he, Mnemonic.operandOp, adc_readOperand]

theorem exec_sbc (hf : s.fault = none) (h : i.form.name = .sbc) :
    exec i s = .next (i.form.afterAlu (subWithBorrow s.par s.cpu.a (i.form.operand s) s.cpu.p) s) := by
  obtain ⟨-, -, he⟩ := read_row_cost_exec hf rfl h
  rw [he, Mnemonic.operandOp, sbc_readOperand]

end exec

/-! ### Which arithmetic runs (rules R26, R203) -/

section modes

variable {par : Params} {p : Flags}

theorem inDecimal_iff : inDecimal par p = true ↔ par.decimalMode = .nmosBcd ∧ p.d = true := by
  simp only [inDecimal, Bool.and_eq_true, decide_eq_true_eq]

theorem addWithCarry_of_binary (h : ¬(par.decimalMode = .nmosBcd ∧ p.d = true)) (a m : Byte) :
    addWithCarry par a m p = addBinary a m p := by
  rw [addWithCarry, if_neg (mt inDecimal_iff.mp h)]

theorem subWithBorrow_of_binary (h : ¬(par.decimalMode = .nmosBcd ∧ p.d = true)) (a m : Byte) :
    subWithBorrow par a m p = subBinary a m p := by
  rw [subWithBorrow, if_neg (mt inDecimal_iff.mp h)]

theorem addWithCarry_of_decimal (hm : par.decimalMode = .nmosBcd) (hd : p.d = true) (a m : Byte) :
    addWithCarry par a m p = addDecimal a m p := by
  rw [addWithCarry, if_pos (inDecimal_iff.mpr ⟨hm, hd⟩)]

theorem subWithBorrow_of_decimal (hm : par.decimalMode = .nmosBcd) (hd : p.d = true) (a m : Byte) :
    subWithBorrow par a m p = subDecimal a m p := by
  rw [subWithBorrow, if_pos (inDecimal_iff.mpr ⟨hm, hd⟩)]

end modes

/-! ### Binary -/

section binary

variable (a m : Byte) (p : Flags)

/-- The complement as the spec writes it (rule R202). -/
theorem xor_255 : m ^^^ 0xFF = ~~~m := BitVec.xor_allOnes

/-- SBC's overflow bit, in terms of the operand itself (rule R202). -/
theorem not_xor_not : ~~~(a ^^^ ~~~m) = a ^^^ m := by
  rw [BitVec.not_xor_right, BitVec.not_not]

theorem not_toNat : (~~~m).toNat = 255 - m.toNat := BitVec.toNat_not

/-- SBC adds the complement, which is `A - m - (1 - C)` (rule R202). -/
theorem ofNat_add_not (c : Bool) :
    BitVec.ofNat 8 (a.toNat + (~~~m).toNat + c.toNat) = a - m - BitVec.ofNat 8 (1 - c.toNat) := by
  have hm := m.isLt
  apply BitVec.eq_of_toNat_eq
  rw [not_toNat, BitVec.toNat_ofNat, BitVec.toNat_sub, BitVec.toNat_sub, BitVec.toNat_ofNat]
  cases c <;> simp only [Bool.toNat_false, Bool.toNat_true] <;> omega

/-- The carry of SBC says that no borrow occurred (rule R202). -/
theorem carry_add_not (c : Bool) :
    256 ≤ a.toNat + (~~~m).toNat + c.toNat ↔ m.toNat + (1 - c.toNat) ≤ a.toNat := by
  have hm := m.isLt
  have hc := Bool.toNat_le c
  rw [not_toNat]
  omega

/-- SBC's result and flags in terms of the operand, its complement only in the sum (rule R202). -/
theorem subBinary_eq :
    subBinary a m p =
      (let sum := a.toNat + (m ^^^ 0xFF).toNat + p.c.toNat
       let r := BitVec.ofNat 8 sum
       ⟨r, { withNZ p r with c := decide (256 ≤ sum), v := ((a ^^^ m) &&& (a ^^^ r)).getLsbD 7 }⟩) := by
  rw [subBinary, addBinary, not_xor_not, xor_255]
  rfl

end binary

/-- Settles O23: the sum of ADC, and that of SBC with the complement of the operand. -/
theorem addAndSubtractBinary : Obligations.AddAndSubtractBinary := by
  unfold Obligations.AddAndSubtractBinary
  intro i s hf hb f m u a cost
  refine ⟨fun h => ?_, fun h => ?_⟩
  · obtain ⟨hrow, hcost, -⟩ := read_row_cost_exec hf rfl h
    refine ⟨hrow, hcost, ?_⟩
    rw [exec_adc hf h, addWithCarry_of_binary hb]
    rfl
  · obtain ⟨hrow, hcost, -⟩ := read_row_cost_exec hf rfl h
    refine ⟨hrow, hcost, ?_, ?_, ?_⟩
    · rw [xor_255]
      exact ofNat_add_not a m s.cpu.p.c
    · rw [xor_255]
      exact carry_add_not a m s.cpu.p.c
    · rw [exec_sbc hf h, subWithBorrow_of_binary hb, subBinary_eq]
      rfl

/-! ### Signed overflow (rule R221) -/

section overflow

variable (a m : Byte) (p : Flags)

theorem msb_iff (b : Byte) : b.msb = true ↔ b.toInt < 0 := by
  rw [BitVec.msb_eq_toInt, decide_eq_true_eq]

/-- The overflow bit is set where the operands have one sign and the result the other (rules R201, R221). -/
theorem overflow_bit_iff (r : Byte) :
    (~~~(a ^^^ m) &&& (a ^^^ r)).getLsbD 7 = true ↔
      (a.toInt < 0 ↔ m.toInt < 0) ∧ ¬(a.toInt < 0 ↔ r.toInt < 0) := by
  have hmsb : ∀ b : Byte, b.getLsbD 7 = b.msb := fun b => rfl
  simp only [hmsb, BitVec.msb_and, BitVec.msb_not, BitVec.msb_xor, ← msb_iff]
  cases a.msb <;> cases m.msb <;> cases r.msb <;> decide

theorem addBinary_value_signed :
    (addBinary a m p).value = BitVec.ofInt 8 (a.toInt + m.toInt + (p.c.toNat : Int)) := by
  rw [BitVec.ofInt_add, BitVec.ofInt_add, BitVec.ofInt_toInt, BitVec.ofInt_toInt, BitVec.ofInt_natCast, addBinary]
  simp only [carry, BitVec.ofNat_add, BitVec.ofNat_toNat, BitVec.setWidth_eq]

/-- The result of a sum of signed bytes has the sign of the sum, or the other one where the sum leaves the range. -/
theorem toInt_ofInt_byte {n : Int} (hl : -256 ≤ n) (hh : n < 256) :
    (BitVec.ofInt 8 n).toInt = if n < -128 then n + 256 else if 127 < n then n - 256 else n := by
  rw [BitVec.toInt_ofInt, Int.bmod_def]
  split <;> split <;> omega

theorem addBinary_overflow :
    (addBinary a m p).p.v = true ↔
      a.toInt + m.toInt + (p.c.toNat : Int) < -128 ∨ 127 < a.toInt + m.toInt + (p.c.toNat : Int) := by
  have hv : (addBinary a m p).p.v = (~~~(a ^^^ m) &&& (a ^^^ (addBinary a m p).value)).getLsbD 7 := rfl
  have ha := BitVec.toInt_lt (x := a)
  have ha' := BitVec.le_toInt a
  have hm := BitVec.toInt_lt (x := m)
  have hm' := BitVec.le_toInt m
  have hc := Bool.toNat_le p.c
  have hr := toInt_ofInt_byte (n := a.toInt + m.toInt + (p.c.toNat : Int)) (by omega) (by omega)
  rw [hv, overflow_bit_iff, addBinary_value_signed, hr]
  split <;> [skip; split] <;> omega

/-- SBC's difference is the signed sum with the complement (rule R202). -/
theorem add_not_signed (c : Bool) :
    a.toInt + (~~~m).toInt + (c.toNat : Int) = a.toInt - m.toInt - (1 - (c.toNat : Int)) := by
  have hm := m.isLt
  rw [BitVec.toInt_not, BitVec.toInt_eq_toNat_bmod m, Int.bmod_def, Int.bmod_def]
  omega

end overflow

/-- Settles O24: the signed sum of ADC, and SBC as ADC of the complement. -/
theorem overflowIsSignedOverflow : Obligations.OverflowIsSignedOverflow := by
  unfold Obligations.OverflowIsSignedOverflow
  intro i s t hf hb he m sum diff
  refine ⟨fun h => ?_, fun h => ?_⟩
  · rw [exec_adc hf h, addWithCarry_of_binary hb] at he
    cases he
    exact ⟨addBinary_overflow s.cpu.a m s.cpu.p, addBinary_value_signed s.cpu.a m s.cpu.p⟩
  · rw [exec_sbc hf h, subWithBorrow_of_binary hb] at he
    cases he
    have hd : s.cpu.a.toInt + (~~~m).toInt + (s.cpu.p.c.toNat : Int) = diff := add_not_signed s.cpu.a m s.cpu.p.c
    exact ⟨hd ▸ addBinary_overflow s.cpu.a (~~~m) s.cpu.p, hd ▸ addBinary_value_signed s.cpu.a (~~~m) s.cpu.p⟩

/-! ### Decimal (rule R203) -/

section decimal

/-- A digit pair as a number: each digit modulo 16. -/
theorem digits_toNat (hi lo : Int) : (digits hi lo).toNat = (hi % 16).toNat * 16 + (lo % 16).toNat := by
  rw [digits, BitVec.toNat_append, ← Nat.shiftLeft_add_eq_or_of_lt (BitVec.isLt _), BitVec.toNat_ofInt,
    BitVec.toNat_ofInt, Nat.shiftLeft_eq]
  rfl

theorem digits_ofInt (hi lo : Int) : digits hi lo = BitVec.ofInt 8 (hi % 16 * 16 + lo % 16) := by
  apply BitVec.eq_of_toNat_eq
  rw [digits_toNat, BitVec.toNat_ofInt]
  omega

theorem digits_ofNat (hi lo : Nat) : digits hi lo = BitVec.ofNat 8 (hi % 16 * 16 + lo % 16) := by
  rw [digits_ofInt, ← BitVec.ofInt_natCast]
  push_cast
  rfl

theorem testBit_three (n : Nat) : n.testBit 3 = decide (n / 8 % 2 = 1) := Nat.testBit_eq_decide_div_mod_eq

/-- The sign of the high digit, in its place in the byte, against that of `A` (rule R203). -/
theorem high_digit_sign (n : Nat) (a : Byte) :
    (BitVec.ofNat 8 (n % 16 * 16) ^^^ a).getLsbD 7 = (n.testBit 3 ^^ bit a 7) := by
  have hn : (n % 16 * 16).testBit 7 = n.testBit 3 := by
    rw [testBit_three, Nat.testBit_eq_decide_div_mod_eq, decide_eq_decide]
    omega
  rw [BitVec.getLsbD_xor, BitVec.getLsbD_ofNat, hn]
  rfl

theorem ofNat_eq_zero_iff (n : Nat) : BitVec.ofNat 8 n = 0x00 ↔ n % 256 = 0 := by
  rw [← BitVec.toNat_inj, BitVec.toNat_ofNat]
  rfl

end decimal

/-- Settles O25: the listing of rule R203, its digit pair and its flags as numbers. -/
theorem addAndSubtractDecimal : Obligations.AddAndSubtractDecimal := by
  unfold Obligations.AddAndSubtractDecimal
  intro i s hf hm hd f m u a c
  refine ⟨fun h => ?_, fun h => ?_⟩
  · rw [exec_adc hf h, addWithCarry_of_decimal hm hd]
    simp only [Form.afterAlu, addDecimal, digits_ofNat, ofNat_eq_zero_iff, high_digit_sign, testBit_three]
    rfl
  · rw [exec_sbc hf h, subWithBorrow_of_decimal hm hd]
    simp only [Form.afterAlu, subDecimal, digits_ofInt, subBinary_eq]
    rfl

/-! ### Decimal numbers (rule R203) -/

/-- The number that two decimal digits stand for. -/
def decimalValue (b : Byte) : Nat := b.toNat / 16 * 10 + b.toNat % 16

/-- Both digits are 0 to 9. -/
def IsDecimal (b : Byte) : Prop := b.toNat / 16 ≤ 9 ∧ b.toNat % 16 ≤ 9

/-- The 6 added to a digit of a sum makes it a decimal digit. -/
theorem add_six_mod {n : Nat} (h : n ≤ 19) : (if 9 < n then n + 6 else n) % 16 = n % 10 := by
  split <;> omega

/-- The 6 taken from a digit of a difference makes it a decimal digit. -/
theorem sub_six_mod {n : Int} (hl : -10 ≤ n) (hh : n ≤ 9) : (if n < 0 then n - 6 else n) % 16 = n % 10 := by
  split <;> omega

/-- The tens of the low digit, carried into the high one. -/
theorem two_digits (x y : Int) : (x + y / 10) % 10 * 10 + y % 10 = (x * 10 + y) % 100 := by
  omega

/-- A pair of adjusted digits is a decimal number: `x` tens and `y` ones, modulo 100. -/
theorem digits_decimal {hi lo x y : Int} (hh : hi % 16 = (x + y / 10) % 10) (hl : lo % 16 = y % 10) :
    IsDecimal (digits hi lo) ∧ (decimalValue (digits hi lo) : Int) = (x * 10 + y) % 100 := by
  rw [← two_digits]
  simp only [IsDecimal, decimalValue, digits_toNat, hh, hl]
  omega

/-- The digit pair of a decimal addition, from the sums `x` and `y` of the high and the low digits (rule R203). -/
theorem digits_of_sums {x y : Nat} (hx : x ≤ 18) (hy : y ≤ 19) :
    let ah := x + if 9 < y then 1 else 0
    let ah' := if 9 < ah then ah + 6 else ah
    let al' := if 9 < y then y + 6 else y
    IsDecimal (digits ah' al') ∧ decimalValue (digits ah' al') = (x * 10 + y) % 100 ∧
    (15 < ah' ↔ 100 ≤ x * 10 + y) := by
  intro ah ah' al'
  have hah : ah = x + y / 10 := by
    simp only [ah]
    split <;> omega
  have hh : ah' % 16 = ah % 10 := add_six_mod (by omega)
  have hl : al' % 16 = y % 10 := add_six_mod hy
  obtain ⟨hd, hv⟩ := digits_decimal (hi := ah') (lo := al') (x := x) (y := y) (by omega) (by omega)
  refine ⟨hd, by omega, ?_⟩
  simp only [ah']
  split <;> omega

/-- The digit pair of a decimal subtraction, from the differences `x` and `y` of the high and the low digits (rule
R203). -/
theorem digits_of_differences {x y : Int} (hx : -9 ≤ x ∧ x ≤ 9) (hy : -10 ≤ y ∧ y ≤ 9) :
    let ah := x - if y < 0 then 1 else 0
    let ah' := if ah < 0 then ah - 6 else ah
    let al' := if y < 0 then y - 6 else y
    IsDecimal (digits ah' al') ∧ (decimalValue (digits ah' al') : Int) = (x * 10 + y) % 100 := by
  intro ah ah' al'
  have hah : ah = x + y / 10 := by
    simp only [ah]
    split <;> omega
  have hh : ah' % 16 = ah % 10 := sub_six_mod (by omega) (by omega)
  have hl : al' % 16 = y % 10 := sub_six_mod (by omega) (by omega)
  exact digits_decimal (by rw [hh, hah]) hl

section decimal

variable {a m : Byte} (p : Flags) (ha : IsDecimal a) (hm : IsDecimal m)
include ha hm

/-- Decimal addition of decimal numbers: the number it gives and its carry. -/
theorem addDecimal_decimal :
    let sum := decimalValue a + decimalValue m + p.c.toNat
    let r := addDecimal a m p
    IsDecimal r.value ∧ decimalValue r.value = sum % 100 ∧ r.p.c = decide (100 ≤ sum) := by
  intro sum r
  obtain ⟨ha1, ha0⟩ := ha
  obtain ⟨hm1, hm0⟩ := hm
  have hc := Bool.toNat_le p.c
  obtain ⟨hd, hv, hcarry⟩ := digits_of_sums (x := a.toNat / 16 + m.toNat / 16)
    (y := a.toNat % 16 + m.toNat % 16 + p.c.toNat) (by omega) (by omega)
  have hsum : sum = (a.toNat / 16 + m.toNat / 16) * 10 + (a.toNat % 16 + m.toNat % 16 + p.c.toNat) := by
    simp only [sum, decimalValue]
    omega
  rw [hsum]
  exact ⟨hd, hv, decide_eq_decide.mpr hcarry⟩

/-- Decimal subtraction of decimal numbers: the number it gives, and its carry as the absence of a borrow. -/
theorem subDecimal_decimal :
    let taken := decimalValue m + (1 - p.c.toNat)
    let r := subDecimal a m p
    IsDecimal r.value ∧ decimalValue r.value = (decimalValue a + 100 - taken) % 100 ∧
    r.p.c = decide (taken ≤ decimalValue a) := by
  intro taken r
  obtain ⟨ha1, ha0⟩ := ha
  obtain ⟨hm1, hm0⟩ := hm
  have hc := Bool.toNat_le p.c
  obtain ⟨hd, hv⟩ := digits_of_differences (x := (a.toNat / 16 : Nat) - (m.toNat / 16 : Nat))
    (y := (a.toNat % 16 : Nat) - (m.toNat % 16 : Nat) - (1 - (p.c.toNat : Int))) (by omega) (by omega)
  have hr : (decimalValue r.value : Int) = ((decimalValue a : Int) - taken) % 100 := by
    refine hv.trans (congrArg (· % 100) ?_)
    simp only [taken, decimalValue]
    omega
  have hcarry : m.toNat + (1 - p.c.toNat) ≤ a.toNat ↔ taken ≤ decimalValue a := by
    simp only [taken, decimalValue]
    omega
  have ht : taken ≤ 100 := by
    simp only [taken, decimalValue]
    omega
  exact ⟨hd, by omega, decide_eq_decide.mpr ((carry_add_not a m p.c).trans hcarry)⟩

end decimal

/-- Settles O26: the decimal arithmetic of the two operations on decimal numbers. -/
theorem decimalModeIsDecimalArithmetic : Obligations.DecimalModeIsDecimalArithmetic := by
  unfold Obligations.DecimalModeIsDecimalArithmetic
  intro i s t hf hn hd he m value proper ha hm
  refine ⟨fun h => ?_, fun h => ?_⟩
  · rw [exec_adc hf h, addWithCarry_of_decimal hn hd] at he
    cases he
    exact addDecimal_decimal s.cpu.p ha hm
  · rw [exec_sbc hf h, subWithBorrow_of_decimal hn hd] at he
    cases he
    exact subDecimal_decimal s.cpu.p ha hm

end Sys2Proof.Machine
end

section
/-!
PROOF. The logic instructions, the compares and BIT, in every mode (rules R204 to R210).
-/

namespace Sys2Proof.Machine

/-- Settles O27: the three logic instructions, each with its operation `andA`, `oraA` or `eorA`. -/
theorem logicResult : Obligations.LogicResult := by
  unfold Obligations.LogicResult
  intro i s hf f m u cost result
  exact ⟨read_row_cost_exec hf rfl, read_row_cost_exec hf rfl, read_row_cost_exec hf rfl⟩

/-- Settles O28: the compares and BIT, each with its operation `cmpA`, `cmpX`, `cmpY` or `testBits`. -/
theorem compareAndBitResult : Obligations.CompareAndBitResult := by
  unfold Obligations.CompareAndBitResult
  intro i s hf f m u cost flags compared
  exact ⟨read_row_cost_exec hf rfl, read_row_cost_exec hf rfl, read_row_cost_exec hf rfl, read_row_cost_exec hf rfl⟩

end Sys2Proof.Machine
end

section
/-!
PROOF. Increments, decrements and shifts, on a register and in memory (rules R211 to R220).
-/

namespace Sys2Proof.Machine

/-! ### Documented instructions of class rmw -/

/-- The documented mnemonics of class rmw (rules R211, R212, R217 to R220). -/
def Mnemonic.modifiesMemory : Mnemonic → Bool
  | .inc | .dec | .asl | .lsr | .rol | .ror => true
  | _ => false

/-- The rows of their memory forms in the opcode table: opcode byte, mode and cycles. -/
def Mnemonic.memoryRows : Mnemonic → List (Byte × Mode × Nat)
  | .inc => [(0xE6, .zp, 5), (0xF6, .zpx, 6), (0xEE, .abs, 6), (0xFE, .abx, 7)]
  | .dec => [(0xC6, .zp, 5), (0xD6, .zpx, 6), (0xCE, .abs, 6), (0xDE, .abx, 7)]
  | .asl => [(0x06, .zp, 5), (0x16, .zpx, 6), (0x0E, .abs, 6), (0x1E, .abx, 7)]
  | .lsr => [(0x46, .zp, 5), (0x56, .zpx, 6), (0x4E, .abs, 6), (0x5E, .abx, 7)]
  | .rol => [(0x26, .zp, 5), (0x36, .zpx, 6), (0x2E, .abs, 6), (0x3E, .abx, 7)]
  | .ror => [(0x66, .zp, 5), (0x76, .zpx, 6), (0x6E, .abs, 6), (0x7E, .abx, 7)]
  | _ => []

/-- The opcode byte of the accumulator form of a shift (rules R217 to R220); 0 for every other mnemonic. -/
def Mnemonic.accumulatorOp : Mnemonic → Byte
  | .asl => 0x0A
  | .lsr => 0x4A
  | .rol => 0x2A
  | .ror => 0x6A
  | _ => 0x00

section memory

variable {i : Instr} {s : State}

/-- The state after the cycles of class rmw, with the flags of the operation. -/
def Form.afterRmw (f : Form) (r : Alu) (s : State) : State :=
  (busCycles (f.rmwCycles r.value s) s).setCpu { s.cpu with pc := f.nextPc s, p := r.p }

/-- The memory form of an instruction of class rmw is one of the rows of its mnemonic, and is encoded by that row. -/
theorem isRow_memoryRows (h : i.form.name.modifiesMemory = true) (hm : i.form.mode ≠ .acc) :
    i.IsRow i.form.name.memoryRows := by
  cases i with
  | aslZp | rolZp | lsrZp | rorZp | decZp | incZp | aslZpX | rolZpX | lsrZpX | rorZpX | decZpX | incZpX
  | aslAbs | rolAbs | lsrAbs | rorAbs | decAbs | incAbs | aslAbsX | rolAbsX | lsrAbsX | rorAbsX | decAbsX
  | incAbsX => exact ⟨List.contains_iff_mem.mp rfl, rfl⟩
  | aslAcc | rolAcc | lsrAcc | rorAcc => exact absurd rfl hm
  | _ => cases h

/-- The accumulator form of a shift is the one row of its mnemonic in that mode. -/
theorem isRow_accumulator (h : i.form.name.modifiesMemory = true) (hm : i.form.mode = .acc) :
    i.IsRow [(i.form.name.accumulatorOp, .acc, 2)] := by
  cases i with
  | aslAcc | rolAcc | lsrAcc | rorAcc => exact ⟨List.contains_iff_mem.mp rfl, rfl⟩
  | aslZp | rolZp | lsrZp | rorZp | decZp | incZp | aslZpX | rolZpX | lsrZpX | rorZpX | decZpX | incZpX
  | aslAbs | rolAbs | lsrAbs | rorAbs | decAbs | incAbs | aslAbsX | rolAbsX | lsrAbsX | rorAbsX | decAbsX
  | incAbsX => cases hm
  | _ => cases h

theorem exec_rmw_of_eq {e : Word × State}
    (he : e = (i.form.effAddr s, (busCycles (i.form.addressCycles s) s).setCpu { s.cpu with pc := i.form.nextPc s }))
    (hx : exec i s = complete i.form.op s (modifyAt i.form.name.alu e).2) :
    exec i s = complete i.form.op s (i.form.afterRmw (i.form.name.alu (i.form.rmwOperand s) s.cpu.p) s) := by
  rw [hx, modifyAt_cycles _ s _ he]
  rfl

/-- The memory form makes the cycles of class rmw with the result of its operation, and replaces the flags and the
program counter alone: one case for each addressing mode.  The `rfl`s read the row of the instruction and its arm of
`exec`. -/
theorem exec_rmw (s : State) (h : i.form.name.modifiesMemory = true) (hm : i.form.mode ≠ .acc) :
    exec i s = complete i.form.op s (i.form.afterRmw (i.form.name.alu (i.form.rmwOperand s) s.cpu.p) s) := by
  cases i with
  | aslZp b1 | rolZp b1 | lsrZp b1 | rorZp b1 | decZp b1 | incZp b1 =>
    exact exec_rmw_of_eq (addrZp_cycles _ s rfl) rfl
  | aslZpX b1 | rolZpX b1 | lsrZpX b1 | rorZpX b1 | decZpX b1 | incZpX b1 =>
    exact exec_rmw_of_eq (addrZpX_cycles _ s rfl) rfl
  | aslAbs lo hi | rolAbs lo hi | lsrAbs lo hi | rorAbs lo hi | decAbs lo hi | incAbs lo hi =>
    exact exec_rmw_of_eq (addrAbs_cycles _ s rfl) rfl
  | aslAbsX lo hi | rolAbsX lo hi | lsrAbsX lo hi | rorAbsX lo hi | decAbsX lo hi | incAbsX lo hi =>
    exact exec_rmw_of_eq (addrAbsX_cycles _ s rfl) rfl
  | aslAcc | rolAcc | lsrAcc | rorAcc => exact absurd rfl hm
  | _ => cases h

/-- The row's cycles, for any result (rule R145). -/
theorem rmwCycles_cost (h : i.form.name.modifiesMemory = true) (hm : i.form.mode ≠ .acc) (r : Byte) (s : State) :
    (i.form.rmwCycles r s).length = i.form.cycles := by
  rw [rmwCycles_length]
  cases i with
  | aslZp | rolZp | lsrZp | rorZp | decZp | incZp | aslZpX | rolZpX | lsrZpX | rorZpX | decZpX | incZpX
  | aslAbs | rolAbs | lsrAbs | rorAbs | decAbs | incAbs | aslAbsX | rolAbsX | lsrAbsX | rorAbsX | decAbsX
  | incAbsX => rfl
  | aslAcc | rolAcc | lsrAcc | rorAcc => exact absurd rfl hm
  | _ => cases h

/-- The memory form of an instruction of class rmw is a row of its mnemonic, costs the row's cycles, and answers with
the result `r` of its operation on the byte it read, where no cycle raises. -/
theorem memory_row_cost_exec {n : Mnemonic} {r : Alu} (hf : s.fault = none) (hn : n.modifiesMemory = true)
    (h : i.form.name = n) (hm : i.form.mode ≠ .acc) (hr : n.alu (i.form.rmwOperand s) s.cpu.p = r) :
    i.IsRow n.memoryRows ∧ (i.form.rmwCycles r.value s).length = i.form.cycles ∧
    (Quiet (i.form.rmwCycles r.value s) s → exec i s = .next (i.form.afterRmw r s)) := by
  subst h hr
  refine ⟨isRow_memoryRows hn hm, rmwCycles_cost hn hm _ s, fun hq => ?_⟩
  rw [exec_rmw s hn hm]
  exact complete_cycles _ _ hf hq

/-- INC and DEC have no accumulator form. -/
theorem mode_ne_acc (h : i.form.name = .inc ∨ i.form.name = .dec) : i.form.mode ≠ .acc := by
  intro hm
  cases i with
  | aslAcc | rolAcc | lsrAcc | rorAcc => rcases h with h | h <;> cases h
  | _ => cases hm

end memory

/-- Settles O29: INC and DEC by class rmw, the register forms as implied instructions. -/
theorem incrementAndDecrementResult : Obligations.IncrementAndDecrementResult := by
  unfold Obligations.IncrementAndDecrementResult
  constructor
  · intro i s hf f m result
    exact ⟨fun h => memory_row_cost_exec hf rfl h (mode_ne_acc (.inl h)) rfl,
      fun h => memory_row_cost_exec hf rfl h (mode_ne_acc (.inr h)) rfl⟩
  · intro s hf u c
    exact ⟨exec_implied (fun c => { c with x := c.x + 1, p := withNZ c.p (c.x + 1) }) hf rfl,
      exec_implied (fun c => { c with y := c.y + 1, p := withNZ c.p (c.y + 1) }) hf rfl,
      exec_implied (fun c => { c with x := c.x - 1, p := withNZ c.p (c.x - 1) }) hf rfl,
      exec_implied (fun c => { c with y := c.y - 1, p := withNZ c.p (c.y - 1) }) hf rfl, rfl, rfl, rfl, rfl⟩

/-! ### Shifts as arithmetic (rules R217 to R220) -/

section shifts

variable (v : Byte) (p : Flags)

theorem shiftLeft_one : v <<< 1 = BitVec.ofNat 8 (2 * v.toNat) := by
  apply BitVec.eq_of_toNat_eq
  rw [BitVec.toNat_shiftLeft, BitVec.toNat_ofNat, Nat.shiftLeft_eq, Nat.mul_comm, Nat.pow_one]

theorem shiftRight_one : v >>> 1 = BitVec.ofNat 8 (v.toNat / 2) := by
  have hv := v.isLt
  apply BitVec.eq_of_toNat_eq
  rw [BitVec.toNat_ushiftRight, BitVec.toNat_ofNat, Nat.shiftRight_eq_div_pow, Nat.pow_one]
  omega

theorem bitAt_zero_ofNat (c : Bool) : bitAt 0 c = BitVec.ofNat 8 c.toNat := by
  cases c <;> rfl

theorem bitAt_seven_ofNat (c : Bool) : bitAt 7 c = BitVec.ofNat 8 (128 * c.toNat) := by
  cases c <;> rfl

/-- A byte has nothing in common with a bit at a place where it has none. -/
theorem and_bitAt {v : Byte} {j : Nat} (h : v.getLsbD j = false) (c : Bool) : v &&& bitAt j c = 0 := by
  cases c with
  | false => simp [bitAt]
  | true =>
    have hb : bitAt j true = BitVec.twoPow 8 j := rfl
    rw [hb, BitVec.and_twoPow, h]
    rfl

/-- The old carry enters bit 0, which the shift left free (rule R219). -/
theorem rotate_left_one (c : Bool) : v <<< 1 ||| bitAt 0 c = BitVec.ofNat 8 (2 * v.toNat + c.toNat) := by
  have hfree : v <<< 1 &&& bitAt 0 c = 0 := and_bitAt (by simp) c
  rw [← BitVec.add_eq_or_of_and_eq_zero _ _ hfree, shiftLeft_one, bitAt_zero_ofNat, BitVec.ofNat_add]

/-- The old carry enters bit 7, which the shift left free (rule R220). -/
theorem rotate_right_one (c : Bool) : v >>> 1 ||| bitAt 7 c = BitVec.ofNat 8 (v.toNat / 2 + 128 * c.toNat) := by
  have hfree : v >>> 1 &&& bitAt 7 c = 0 := and_bitAt (by simp) c
  rw [← BitVec.add_eq_or_of_and_eq_zero _ _ hfree, shiftRight_one, bitAt_seven_ofNat, BitVec.ofNat_add]

/-- The result `r` of a shift and the bit `c` that it moved into the carry, with N and Z of the result. -/
def shifted (r : Byte) (c : Bool) (p : Flags) : Alu := ⟨r, { withNZ p r with c := c }⟩

theorem alu_asl : Mnemonic.asl.alu v p = shifted (BitVec.ofNat 8 (2 * v.toNat)) (v.getLsbD 7) p := by
  rw [← shiftLeft_one]
  rfl

theorem alu_lsr : Mnemonic.lsr.alu v p = shifted (BitVec.ofNat 8 (v.toNat / 2)) (v.getLsbD 0) p := by
  rw [← shiftRight_one]
  rfl

theorem alu_rol : Mnemonic.rol.alu v p = shifted (BitVec.ofNat 8 (2 * v.toNat + p.c.toNat)) (v.getLsbD 7) p := by
  rw [← rotate_left_one]
  rfl

theorem alu_ror : Mnemonic.ror.alu v p = shifted (BitVec.ofNat 8 (v.toNat / 2 + 128 * p.c.toNat)) (v.getLsbD 0) p := by
  rw [← rotate_right_one]
  rfl

end shifts

/-! ### Shifts of the accumulator -/

section accumulator

variable {i : Instr} {s : State}

/-- The accumulator form makes the cycles of an implied instruction, and replaces `A` and the flags. -/
theorem exec_accumulator (hf : s.fault = none) (h : i.form.name.modifiesMemory = true) (hm : i.form.mode = .acc) :
    exec i s = .next ((busCycles (impliedList s) s).setCpu
      { s.cpu with
        a := (i.form.name.alu s.cpu.a s.cpu.p).value
        pc := s.cpu.pc + 1
        p := (i.form.name.alu s.cpu.a s.cpu.p).p }) := by
  cases i with
  | aslAcc | rolAcc | lsrAcc | rorAcc =>
    exact exec_implied (fun c => { c with a := (Mnemonic.alu _ c.a c.p).value, p := (Mnemonic.alu _ c.a c.p).p }) hf rfl
  | aslZp | rolZp | lsrZp | rorZp | decZp | incZp | aslZpX | rolZpX | lsrZpX | rorZpX | decZpX | incZpX
  | aslAbs | rolAbs | lsrAbs | rorAbs | decAbs | incAbs | aslAbsX | rolAbsX | lsrAbsX | rorAbsX | decAbsX
  | incAbsX => cases hm
  | _ => cases h

/-- A shift on `A` and in memory, from its result and its carry as functions of the byte. -/
theorem shift_row_cost_exec {n : Mnemonic} {result : Byte → Byte} {out : Byte → Bool} (hf : s.fault = none)
    (hn : n.modifiesMemory = true) (ha : ∀ v, n.alu v s.cpu.p = shifted (result v) (out v) s.cpu.p)
    (h : i.form.name = n) :
    let m := i.form.rmwOperand s
    (i.form.mode = .acc →
      i.IsRow [(n.accumulatorOp, .acc, 2)] ∧
      exec i s = .next ((busCycles (impliedList s) s).setCpu
        { s.cpu with
          a := result s.cpu.a
          pc := s.cpu.pc + 1
          p := { withNZ s.cpu.p (result s.cpu.a) with c := out s.cpu.a } })) ∧
    (i.form.mode ≠ .acc →
      i.IsRow n.memoryRows ∧ (i.form.rmwCycles (result m) s).length = i.form.cycles ∧
      (Quiet (i.form.rmwCycles (result m) s) s →
        exec i s = .next (i.form.afterRmw (shifted (result m) (out m) s.cpu.p) s))) := by
  refine ⟨fun hm => ?_, fun hm => memory_row_cost_exec hf hn h hm (ha _)⟩
  subst h
  refine ⟨isRow_accumulator hn hm, ?_⟩
  rw [exec_accumulator hf hn hm, ha]
  rfl

end accumulator

/-- Settles O30: the four shifts, each by its result and its carry as arithmetic. -/
theorem shiftResult : Obligations.ShiftResult := by
  unfold Obligations.ShiftResult
  intro i s hf f c memory rows
  simp only [rows, List.forall_mem_cons]
  exact ⟨shift_row_cost_exec hf rfl (alu_asl · s.cpu.p), shift_row_cost_exec hf rfl (alu_lsr · s.cpu.p),
    shift_row_cost_exec hf rfl (alu_rol · s.cpu.p), shift_row_cost_exec hf rfl (alu_ror · s.cpu.p),
    List.forall_mem_nil _⟩

end Sys2Proof.Machine
end

section
/-!
PROOF. The flag instructions, jumps, call and return, trap entry and trap return (rules R250 to R263).
-/

namespace Sys2Proof.Machine

/-! ### Lists of cycles by their last address -/

/-- The last of `n + 1` fetches is `n` behind the first. -/
theorem fetches_succ (n : Nat) (pc : Word) :
    fetches (n + 1) pc = fetches n pc ++ [.read (pc + BitVec.ofNat 16 n)] := by
  induction n generalizing pc with
  | zero => rw [BitVec.add_zero]; rfl
  | succ n ih =>
    have hpc : pc + 1 + BitVec.ofNat 16 n = pc + BitVec.ofNat 16 (n + 1) := by
      rw [Nat.add_comm n, BitVec.ofNat_add, BitVec.add_assoc]
      rfl
    rw [fetches, ih, hpc]
    rfl

/-- The last of `n + 1` pulls is `n + 1` above the stack pointer. -/
theorem pullCycles_succ (n : Nat) (sp : Byte) :
    pullCycles (n + 1) sp = pullCycles n sp ++ [.read (stackByte (sp + BitVec.ofNat 8 (n + 1)))] := by
  induction n generalizing sp with
  | zero => rfl
  | succ n ih =>
    have hsp : sp + 1 + BitVec.ofNat 8 (n + 1) = sp + BitVec.ofNat 8 (n + 1 + 1) := by
      rw [Nat.add_comm (n + 1), BitVec.ofNat_add 1, BitVec.add_assoc]
      rfl
    rw [pullCycles, ih, hsp]
    rfl

/-- A read behind a list that does not raise does not raise either. -/
theorem quiet_append_read {l : List BusCycle} {s : State} (hq : Quiet l s) (a : Word) : Quiet (l ++ [.read a]) s := by
  simpa [Quiet, writesRsync] using hq

section jumps

variable {s : State}

/-- JMP `abs` goes to its operand (rule R256). -/
theorem exec_jmpAbs (lo hi : Byte) (hf : s.fault = none) :
    exec (.jmpAbs lo hi) s =
      .next ((busCycles (fetches 3 s.cpu.pc) s).setCpu { s.cpu with pc := word hi lo }) := by
  have he : exec (.jmpAbs lo hi) s = complete 0x4C s ((fetchCycles 3 s).setPc (word hi lo)) := rfl
  rw [he, fetchCycles_cycles, State.setPc_eq, State.setCpu_setCpu]
  exact complete_cycles _ _ hf (quiet_of_reads (fetches_reads 3 _) s)

/-- JMP `(abs)` goes to the word at its pointer; the address of the high byte does not carry (rule R257). -/
theorem exec_jmpInd (lo hi : Byte) (hf : s.fault = none) :
    exec (.jmpInd lo hi) s =
      .next ((busCycles (fetches 3 s.cpu.pc ++ [.read (word hi lo), .read (word hi (lo + 1))]) s).setCpu
        { s.cpu with
          pc := word (busCycles (fetches 3 s.cpu.pc ++ [.read (word hi lo), .read (word hi (lo + 1))]) s).dbus
            (busCycles (fetches 3 s.cpu.pc ++ [.read (word hi lo)]) s).dbus }) := by
  have he : exec (.jmpInd lo hi) s = complete 0x6C s (jumpIndirect lo hi s) := rfl
  rw [he, jumpIndirect_cycles]
  exact complete_cycles _ _ hf (quiet_of_reads (by simp [fetches_reads]) s)

/-- RTS goes behind the address that it pulls (rule R259). -/
theorem exec_rts (hf : s.fault = none) :
    exec .rts s =
      (let back := word (busCycles (impliedList s ++ pullCycles 2 s.cpu.sp) s).dbus
        (busCycles (impliedList s ++ pullCycles 1 s.cpu.sp) s).dbus
       .next ((busCycles (impliedList s ++ pullCycles 2 s.cpu.sp ++ [.read back]) s).setCpu
        { s.cpu with pc := back + 1, sp := s.cpu.sp + 2 })) := by
  have he : exec .rts s = complete 0x60 s (returnFromCall s) := rfl
  rw [he, returnFromCall_cycles]
  exact complete_cycles _ _ hf (quiet_of_reads (by simp [impliedList_reads, pullCycles_reads]) s)

/-- BRK enters the trap where none of its pushes raises (rule R262). -/
theorem exec_brk_of_quiet (hf : s.fault = none) (hq : Quiet (trapList s) s) :
    exec .brk s = .next ((busCycles (trapList s ++ [.read 0xFFFF]) s).setCpu
      { s.cpu with
        pc := word (busCycles (trapList s ++ [.read 0xFFFF]) s).dbus (busCycles (trapList s) s).dbus
        sp := s.cpu.sp - 3
        p := { s.cpu.p with i := true } }) := by
  rw [exec_brk, takeTrap_cycles]
  exact complete_cycles _ _ hf (quiet_append_read hq 0xFFFF)

/-- RTI takes the six flags and the address that it pulls (rule R263). -/
theorem exec_rti (hf : s.fault = none) :
    exec .rti s = .next ((busCycles (impliedList s ++ pullCycles 3 s.cpu.sp) s).setCpu
      { s.cpu with
        pc := word (busCycles (impliedList s ++ pullCycles 3 s.cpu.sp) s).dbus
          (busCycles (impliedList s ++ pullCycles 2 s.cpu.sp) s).dbus
        sp := s.cpu.sp + 3
        p := flagsOf (busCycles (impliedList s ++ pullCycles 1 s.cpu.sp) s).dbus }) := by
  have he : exec .rti s = complete 0x40 s (returnFromTrap (impliedCycles s)) := rfl
  rw [he, returnFromTrap_cycles]
  exact complete_cycles _ _ hf (quiet_of_reads (by simp [impliedList_reads, pullCycles_reads]) s)

end jumps

/-- Settles O32: each is an implied instruction that replaces one flag, or none. -/
theorem flagInstructionResult : Obligations.FlagInstructionResult := by
  unfold Obligations.FlagInstructionResult
  intro s hf u c p
  exact ⟨exec_implied (fun c => { c with p := { c.p with c := false } }) hf rfl,
    exec_implied (fun c => { c with p := { c.p with c := true } }) hf rfl,
    exec_implied (fun c => { c with p := { c.p with i := false } }) hf rfl,
    exec_implied (fun c => { c with p := { c.p with i := true } }) hf rfl,
    exec_implied (fun c => { c with p := { c.p with d := false } }) hf rfl,
    exec_implied (fun c => { c with p := { c.p with d := true } }) hf rfl,
    exec_implied (fun c => { c with p := { c.p with v := false } }) hf rfl,
    exec_implied (fun c => c) hf rfl, rfl, rfl, rfl, rfl, rfl, rfl, rfl, rfl⟩

/-- Settles O33: the cycles of the two jumps, of the call where its pushes do not raise, and of the return. -/
theorem jumpCallAndReturnResult : Obligations.JumpCallAndReturnResult := by
  unfold Obligations.JumpCallAndReturnResult
  intro s lo hi hf pc sp two three pointer whole call pulledLo pulledHi back
  have hjmp := exec_jmpAbs lo hi hf
  have hind := exec_jmpInd lo hi hf
  have hrts := exec_rts hf
  rw [fetches_succ] at hjmp hind
  rw [pullCycles_succ 1] at hrts
  exact ⟨hjmp, hind, fun hq => (exec_jsr lo hi s).trans (complete_cycles _ _ hf hq), hrts, rfl, rfl, rfl, rfl⟩

/-- Settles O34: trap entry where its pushes do not raise, and the return from a trap. -/
theorem breakAndReturnResult : Obligations.BreakAndReturnResult := by
  unfold Obligations.BreakAndReturnResult
  intro s hf pc sp two entry vectorLo vectorHi status backLo backHi m
  have hrti := exec_rti hf
  rw [pullCycles_succ 2, pullCycles_succ 1] at hrti
  exact ⟨fun hq => exec_brk_of_quiet hf (quiet_append_read hq 0xFFFE), hrti, rfl, rfl⟩

end Sys2Proof.Machine
end

section
/-!
PROOF. The fault: which instructions the policy leaves unsupported, and what a faulting instruction answers (rules R280,
R283, R302, R373).
-/

namespace Sys2Proof.Machine

/-- The undocumented mnemonics without a meaning under `emulate_stable` (rule R283). -/
theorem unstable_iff (n : Mnemonic) (s : State) :
    n.unstable s = true ↔
      n ∈ [Mnemonic.ane, .lxa, .sha, .shx, .shy, .tas, .jam] ∨
        n = .arr ∧ s.par.decimalMode = .nmosBcd ∧ s.cpu.p.d = true := by
  cases n <;> simp [Mnemonic.unstable]

section faults

variable {i : Instr} {s : State}

theorem unsupported_iff :
    i.unsupported s = true ↔
      i.form.name.documented = false ∧
        (s.par.illegalPolicy = .fault ∨ s.par.illegalPolicy = .emulateStable ∧ i.form.name.unstable s = true) := by
  unfold Instr.unsupported
  cases s.par.illegalPolicy <;> simp

theorem exec_unsupported (h : i.unsupported s = true) : exec i s = .next (raise i.form.op s) := by
  rcases exec_runsItsCycles i s with ⟨-, he⟩ | ⟨hn, -⟩
  · exact he
  · rw [h] at hn
    cases hn

theorem not_quiet {l : List BusCycle} (hp : s.par.rsyncPolicy = .fault) (hw : writesRsync l = true) : ¬ Quiet l s := by
  simp [Quiet, hp, hw]

/-- An instruction that writes RSYNC where the machine faults on that is discarded (rule R373): it is unsupported, or
its cycles leave a record, which `complete` replaces by its own. -/
theorem exec_writesRsync (hp : s.par.rsyncPolicy = .fault) (hw : writesRsync (i.cycleList s) = true) :
    exec i s = .next (raise i.form.op s) := by
  rcases exec_runsItsCycles i s with ⟨-, he⟩ | ⟨-, c, he⟩
  · exact he
  · rw [he, complete_raises _ c (not_quiet hp hw)]

end faults

/-- Settles O36: the unsupported opcodes by policy and mnemonic; each of them raises. -/
theorem unsupportedOpcodeFaults : Obligations.UnsupportedOpcodeFaults := by
  unfold Obligations.UnsupportedOpcodeFaults
  intro i s
  exact ⟨exec_unsupported, by rw [unsupported_iff, unstable_iff]⟩

/-- Settles O40: a cycle list that writes RSYNC is not quiet, so the instruction is discarded. -/
theorem rsyncWriteFaults : Obligations.RsyncWriteFaults := by
  unfold Obligations.RsyncWriteFaults
  intro i s _ hp hw
  exact exec_writesRsync hp hw

end Sys2Proof.Machine
end

section
/-!
PROOF. The undocumented opcodes under the policies `nop` and `emulate_stable`: one equation for all of them, and from it
the state each leaves (rules R281 to R284).
-/

namespace Sys2Proof.Machine

/-! ### The meaning of an undocumented opcode -/

/-- The state that an undocumented row leads to under `emulate_stable`, before it completes: class write for SAX, class
rmw for the six mnemonics that go on with the result, an implied NOP, and class read for the rest (rules R283,
R284). -/
def Form.emulated (f : Form) (s : State) : State :=
  match f.name with
  | .sax => (busCycles (f.writeCycles (s.cpu.a &&& s.cpu.x) s) s).setCpu { s.cpu with pc := f.nextPc s }
  | .slo | .rla | .sre | .rra | .dcp | .isc =>
    let r := f.name.alu (f.rmwOperand s) s.cpu.p
    f.name.operandOp (r.value, f.afterRmw r s)
  | .nopUndoc =>
    if f.mode = .imp then (busCycles (impliedList s) s).setCpu { s.cpu with pc := s.cpu.pc + 1 }
    else f.name.operandOp (f.readOperand s)
  | n => n.operandOp (f.readOperand s)

/-- It is no meaning where the mnemonic is unstable (rule R283). -/
def Form.stable (f : Form) (s : State) : Option State :=
  if f.name.unstable s then none else some (f.emulated s)

/-- The mnemonics of class rmw are stable, and go on with the result that they write. -/
theorem emulated_rmw {f : Form} (h : [Mnemonic.slo, .rla, .sre, .rra, .dcp, .isc].contains f.name = true) (s : State) :
    f.name.documented = false ∧ f.name.unstable s = false ∧
    f.emulated s = f.name.operandOp
      ((f.name.alu (f.rmwOperand s) s.cpu.p).value, f.afterRmw (f.name.alu (f.rmwOperand s) s.cpu.p) s) := by
  obtain ⟨name, mode, op, cycles, b1, b2⟩ := f
  cases name with
  | slo | rla | sre | rra | dcp | isc => exact ⟨rfl, rfl, rfl⟩
  | _ => cases h

/-- An undocumented opcode looks at its meaning in the state before it alone. -/
theorem undocumented_congr {stable stable' : State → Option State} {s : State} (h : stable s = stable' s) (op : Byte)
    (length n : Nat) : undocumented op length n stable s = undocumented op length n stable' s := by
  simp only [undocumented, h]

/-- The instruction is the undocumented opcode of its row, with the row's meaning. -/
def FollowsPolicy (i : Instr) (s : State) : Prop :=
  exec i s = undocumented i.form.op i.form.length i.form.cycles i.form.stable s

section policies

variable {i : Instr} {s : State}

theorem follows_unstable (hu : i.form.name.unstable s = true)
    (he : exec i s = undocumented i.form.op i.form.length i.form.cycles (fun _ => none) s) : FollowsPolicy i s :=
  he.trans (undocumented_congr (if_pos hu).symm _ _ _)

theorem follows_stable {g : State → State} (hg : g s = i.form.emulated s) (hu : i.form.name.unstable s = false)
    (he : exec i s = undocumented i.form.op i.form.length i.form.cycles (fun u => some (g u)) s) :
    FollowsPolicy i s := by
  refine he.trans (undocumented_congr ?_ _ _ _)
  rw [Form.stable, hu, hg]
  rfl

theorem follows_read {r : State → Byte × State} (hr : r s = i.form.readOperand s)
    (hm : i.form.emulated s = i.form.name.operandOp (i.form.readOperand s)) (hu : i.form.name.unstable s = false)
    (he : exec i s = undocumented i.form.op i.form.length i.form.cycles
      (fun u => some (i.form.name.operandOp (r u))) s) : FollowsPolicy i s :=
  follows_stable (g := fun u => i.form.name.operandOp (r u)) (by rw [hm, hr]) hu he

theorem follows_write {e : State → Word × State} (hn : i.form.name = .sax)
    (ha : e s = (i.form.effAddr s, (busCycles (i.form.addressCycles s) s).setCpu { s.cpu with pc := i.form.nextPc s }))
    (he : exec i s = undocumented i.form.op i.form.length i.form.cycles
      (fun u => some (storeAt (u.cpu.a &&& u.cpu.x) (e u))) s) : FollowsPolicy i s :=
  follows_stable (g := fun u => storeAt (u.cpu.a &&& u.cpu.x) (e u))
    (by simp only [storeAt_cycles _ s _ ha, Form.emulated, hn]) (by rw [hn]; rfl) he

theorem follows_rmw {e : State → Word × State}
    (hn : [Mnemonic.slo, .rla, .sre, .rra, .dcp, .isc].contains i.form.name = true)
    (ha : e s = (i.form.effAddr s, (busCycles (i.form.addressCycles s) s).setCpu { s.cpu with pc := i.form.nextPc s }))
    (he : exec i s = undocumented i.form.op i.form.length i.form.cycles
      (fun u => some (i.form.name.operandOp (modifyAt i.form.name.alu (e u)))) s) : FollowsPolicy i s := by
  obtain ⟨-, hu, hm⟩ := emulated_rmw hn s
  refine follows_stable (g := fun u => i.form.name.operandOp (modifyAt i.form.name.alu (e u))) ?_ hu he
  rw [hm, modifyAt_cycles _ s _ ha]
  rfl

/-- In mode `zpx` the address depends on the state in two places. -/
theorem follows_rmw_zpx (hn : [Mnemonic.slo, .rla, .sre, .rra, .dcp, .isc].contains i.form.name = true)
    (hm : i.form.mode = .zpx)
    (he : exec i s = undocumented i.form.op i.form.length i.form.cycles
      (fun u => some (i.form.name.operandOp (modifyAt i.form.name.alu (addrZpIndexed i.form.b1 u.cpu.x u)))) s) :
    FollowsPolicy i s :=
  follows_rmw (e := fun u => addrZpIndexed i.form.b1 u.cpu.x u) hn (addrZpX_cycles _ s hm) he

/-- ARR has a meaning in binary only (rule R283). -/
theorem follows_arr (b1 : Byte) (s : State) : FollowsPolicy (.arr b1) s := by
  refine Eq.trans rfl (undocumented_congr
    (stable := fun u => if inDecimal u.par u.cpu.p then none else some (arrA (readImm b1 u))) ?_ 0x6B 2 2)
  have hr : readImm b1 s = (Instr.arr b1).form.readOperand s :=
    readImm_cycles (Instr.arr b1).form s rfl
  rw [hr]
  rfl

/-- Every undocumented instruction is its row's opcode with its row's meaning: one case for each addressing mode of each
operand class.  The `rfl`s read the row of the instruction and its arm of `exec`. -/
theorem exec_followsPolicy (s : State) (h : i.form.name.documented = false) : FollowsPolicy i s := by
  cases i with
  -- class read
  | ancImm op b1 | alr b1 | nopImm op b1 | sbx b1 | usbc b1 =>
    exact follows_read (readImm_cycles _ s rfl) rfl rfl (by rfl)
  | nopZp op b1 | laxZp b1 => exact follows_read (readZp_cycles _ s rfl) rfl rfl (by rfl)
  | nopZpX op b1 => exact follows_read (readZpX_cycles _ s rfl) rfl rfl (by rfl)
  | laxZpY b1 => exact follows_read (readZpY_cycles _ s rfl) rfl rfl (by rfl)
  | nopAbs lo hi | laxAbs lo hi => exact follows_read (readAbs_cycles _ s rfl) rfl rfl (by rfl)
  | nopAbsX op lo hi => exact follows_read (readAbsX_cycles _ s rfl) rfl rfl (by rfl)
  | las lo hi | laxAbsY lo hi => exact follows_read (readAbsY_cycles _ s rfl) rfl rfl (by rfl)
  | laxIzX b1 => exact follows_read (readIzX_cycles _ s rfl) rfl rfl (by rfl)
  | laxIzY b1 => exact follows_read (readIzY_cycles _ s rfl) rfl rfl (by rfl)
  | nopImp op => exact follows_stable (impliedCycles_cycles s) rfl (by rfl)
  | arr b1 => exact follows_arr b1 s
  -- class write
  | saxZp b1 => exact follows_write rfl (addrZp_cycles _ s rfl) (by rfl)
  | saxZpY b1 =>
    exact follows_write (e := fun u => addrZpIndexed b1 u.cpu.y u) rfl (addrZpY_cycles (Instr.saxZpY b1).form s rfl)
      (by rfl)
  | saxAbs lo hi => exact follows_write rfl (addrAbs_cycles _ s rfl) (by rfl)
  | saxIzX b1 => exact follows_write rfl (addrIzX_cycles _ s rfl) (by rfl)
  -- class rmw
  | sloZp b1 | rlaZp b1 | sreZp b1 | rraZp b1 | dcpZp b1 | iscZp b1 =>
    exact follows_rmw rfl (addrZp_cycles _ s rfl) (by rfl)
  | sloZpX b1 | rlaZpX b1 | sreZpX b1 | rraZpX b1 | dcpZpX b1 | iscZpX b1 =>
    exact follows_rmw_zpx rfl rfl (by rfl)
  | sloAbs lo hi | rlaAbs lo hi | sreAbs lo hi | rraAbs lo hi | dcpAbs lo hi | iscAbs lo hi =>
    exact follows_rmw rfl (addrAbs_cycles _ s rfl) (by rfl)
  | sloAbsX lo hi | rlaAbsX lo hi | sreAbsX lo hi | rraAbsX lo hi | dcpAbsX lo hi | iscAbsX lo hi =>
    exact follows_rmw rfl (addrAbsX_cycles _ s rfl) (by rfl)
  | sloAbsY lo hi | rlaAbsY lo hi | sreAbsY lo hi | rraAbsY lo hi | dcpAbsY lo hi | iscAbsY lo hi =>
    exact follows_rmw rfl (addrAbsY_cycles _ s rfl) (by rfl)
  | sloIzX b1 | rlaIzX b1 | sreIzX b1 | rraIzX b1 | dcpIzX b1 | iscIzX b1 =>
    exact follows_rmw rfl (addrIzX_cycles _ s rfl) (by rfl)
  | sloIzY b1 | rlaIzY b1 | sreIzY b1 | rraIzY b1 | dcpIzY b1 | iscIzY b1 =>
    exact follows_rmw rfl (addrIzY_cycles _ s rfl) (by rfl)
  -- no meaning
  | jam op | ane b1 | shaIzY b1 | tas lo hi | shy lo hi | shx lo hi | shaAbsY lo hi | lxa b1 =>
    exact follows_unstable rfl rfl
  | _ => cases h

end policies

/-! ### Policy `nop` -/

/-- The fetches of an instruction are among its cycles (rules R141, R145). -/
theorem length_le_cycles (i : Instr) : i.form.length ≤ i.form.cycles := by
  cases i <;> exact Nat.le_of_ble_eq_true rfl

theorem nopCycles_length (i : Instr) (s : State) : (nopCycles i.form s).length = i.form.cycles := by
  rw [nopCycles, List.length_append, fetches_length, List.length_replicate,
    Nat.add_sub_cancel' (length_le_cycles i)]

/-- The cycles of policy `nop` only read. -/
theorem nopCycles_reads (f : Form) (s : State) : ∀ a v, .write a v ∉ nopCycles f s := by
  simp [nopCycles, fetches_reads, List.mem_replicate]

/-- Settles O37: the policy's cycles do not raise, and the program counter alone moves on. -/
theorem undocumentedOpcodeAsNop : Obligations.UndocumentedOpcodeAsNop := by
  unfold Obligations.UndocumentedOpcodeAsNop
  intro i s hf hp hd f l
  refine ⟨nopCycles_length i s, ?_⟩
  rw [exec_followsPolicy s hd, undocumented, hp]
  simp only [nopPolicy_cycles]
  exact complete_cycles _ _ hf (quiet_of_reads (nopCycles_reads f s) s)

/-! ### Policy `emulate_stable` -/

section emulation

variable {i : Instr} {s : State} {n : Mnemonic}

/-- An undocumented instruction that is stable completes in the state of its meaning (rule R283). -/
theorem exec_emulated (hp : s.par.illegalPolicy = .emulateStable) (h : i.form.name = n) (hd : n.documented = false)
    (hu : n.unstable s = false) : exec i s = complete i.form.op s (i.form.emulated s) := by
  subst h
  have hs : i.form.stable s = some (i.form.emulated s) := if_neg (by simp [hu])
  rw [exec_followsPolicy s hd, undocumented, hp]
  simp only [hs]

theorem emulated_nop {f : Form} (h : f.name = .nopUndoc) (hm : f.mode ≠ .imp) (s : State) :
    f.emulated s = discard (f.readOperand s) := by
  simp only [Form.emulated, h, if_neg hm]
  rfl

theorem emulated_read {f : Form} (h : f.name = n) (hn : [Mnemonic.lax, .las].contains n = true) (s : State) :
    f.emulated s = n.operandOp (f.readOperand s) := by
  simp only [List.contains_iff_mem, List.mem_cons, List.not_mem_nil, or_false] at hn
  rcases hn with rfl | rfl <;> simp only [Form.emulated, h]

/-- One of class read answers its operation on its operand. -/
theorem exec_emulated_read (hf : s.fault = none) (hp : s.par.illegalPolicy = .emulateStable) (h : i.form.name = n)
    (hd : n.documented = false) (hu : n.unstable s = false)
    (hm : i.form.emulated s = n.operandOp (i.form.readOperand s)) :
    exec i s = .next (n.operandOp (i.form.readOperand s)) := by
  have he := exec_emulated hp h hd hu
  rw [hm] at he
  subst h
  exact exec_read_of_eq hf rfl he

/-- An immediate one but NOP answers its operation on the byte behind its opcode (rule R148). -/
theorem exec_emulated_immediate (hf : s.fault = none) (hp : s.par.illegalPolicy = .emulateStable) (h : i.form.name = n)
    (hn : [Mnemonic.anc, .alr, .arr, .sbx, .usbc].contains n = true) (hu : n.unstable s = false) :
    exec i s = .next (n.operandOp
      (i.form.b1, (busCycles (fetches 2 s.cpu.pc) s).setCpu { s.cpu with pc := s.cpu.pc + 2 })) := by
  subst h
  cases i with
  | ancImm | alr | arr | sbx | usbc => exact exec_emulated_read hf hp rfl rfl hu rfl
  | _ => cases hn

/-- SAX writes in the last cycle of class write, and replaces the program counter alone. -/
theorem exec_emulated_sax (hf : s.fault = none) (hp : s.par.illegalPolicy = .emulateStable) (h : i.form.name = .sax)
    (hq : Quiet (i.form.writeCycles (s.cpu.a &&& s.cpu.x) s) s) :
    exec i s = .next ((busCycles (i.form.writeCycles (s.cpu.a &&& s.cpu.x) s) s).setCpu
      { s.cpu with pc := i.form.nextPc s }) := by
  rw [exec_emulated hp h rfl rfl]
  simp only [Form.emulated, h]
  exact complete_cycles _ _ hf hq

/-- An implied NOP replaces the program counter alone (rule R147). -/
theorem exec_emulated_nop_implied (hf : s.fault = none) (hp : s.par.illegalPolicy = .emulateStable)
    (h : i.form.name = .nopUndoc) (hm : i.form.mode = .imp) :
    exec i s = .next ((busCycles (impliedList s) s).setCpu { s.cpu with pc := s.cpu.pc + 1 }) := by
  rw [exec_emulated hp h rfl rfl]
  simp only [Form.emulated, h, if_pos hm]
  exact complete_cycles _ _ hf (quiet_of_reads (impliedList_reads s) s)

/-- One of class rmw answers its operation on `A` and the result of `r`, which it wrote, where no cycle raises. -/
theorem exec_emulated_rmw {r : Alu} (hf : s.fault = none) (hp : s.par.illegalPolicy = .emulateStable)
    (h : i.form.name = n) (hn : [Mnemonic.slo, .rla, .sre, .rra, .dcp, .isc].contains n = true)
    (hr : n.alu (i.form.rmwOperand s) s.cpu.p = r) (hq : Quiet (i.form.rmwCycles r.value s) s) :
    exec i s = .next (n.operandOp (r.value,
      (busCycles (i.form.rmwCycles r.value s) s).setCpu { s.cpu with pc := i.form.nextPc s, p := r.p })) := by
  subst h hr
  obtain ⟨hd, hu, hm⟩ := emulated_rmw hn s
  rw [exec_emulated hp rfl hd hu, hm, Form.afterRmw]
  obtain ⟨c, hc⟩ := operandOp_setCpu i.form.name (_, _)
  rw [hc]
  exact complete_cycles _ c hf hq

end emulation

/-! ### The operations, on a state whose registers are replaced -/

section operations

variable (m : Byte) (u : State) (c : Cpu)

theorem loadAX_setCpu : loadAX (m, u.setCpu c) = u.setCpu { c with a := m, x := m, p := withNZ c.p m } := rfl

theorem loadASX_setCpu :
    loadASX (m, u.setCpu c) =
      u.setCpu { c with a := m &&& c.sp, x := m &&& c.sp, sp := m &&& c.sp, p := withNZ c.p (m &&& c.sp) } := rfl

theorem ancA_setCpu :
    ancA (m, u.setCpu c) =
      u.setCpu { c with a := c.a &&& m, p := { withNZ c.p (c.a &&& m) with c := (c.a &&& m).getLsbD 7 } } := rfl

theorem alrA_setCpu :
    alrA (m, u.setCpu c) =
      u.setCpu
        { c with
          a := (c.a &&& m) >>> 1
          p := { withNZ c.p ((c.a &&& m) >>> 1) with c := (c.a &&& m).getLsbD 0 } } := rfl

theorem arrA_setCpu :
    arrA (m, u.setCpu c) =
      (let r := ((c.a &&& m) >>> 1) ||| ((BitVec.ofBool c.p.c).setWidth 8 <<< 7)
       u.setCpu
         { c with a := r, p := { withNZ c.p r with c := r.getLsbD 6, v := r.getLsbD 6 ^^ r.getLsbD 5 } }) := rfl

theorem sbxX_setCpu :
    sbxX (m, u.setCpu c) =
      (let t := c.a &&& c.x
       u.setCpu { c with x := t - m, p := { withNZ c.p (t - m) with c := decide (m.toNat ≤ t.toNat) } }) := rfl

theorem oraA_setCpu :
    oraA (m, u.setCpu c) = u.setCpu { c with a := c.a ||| m, p := withNZ c.p (c.a ||| m) } := rfl

theorem andA_setCpu :
    andA (m, u.setCpu c) = u.setCpu { c with a := c.a &&& m, p := withNZ c.p (c.a &&& m) } := rfl

theorem eorA_setCpu :
    eorA (m, u.setCpu c) = u.setCpu { c with a := c.a ^^^ m, p := withNZ c.p (c.a ^^^ m) } := rfl

theorem cmpA_setCpu :
    cmpA (m, u.setCpu c) =
      u.setCpu { c with p := { withNZ c.p (c.a - m) with c := decide (m.toNat ≤ c.a.toNat) } } := rfl

theorem adc_setCpu :
    adc (m, u.setCpu c) =
      u.setCpu { c with a := (addWithCarry u.par c.a m c.p).value, p := (addWithCarry u.par c.a m c.p).p } := rfl

theorem sbc_setCpu :
    sbc (m, u.setCpu c) =
      u.setCpu { c with a := (subWithBorrow u.par c.a m c.p).value, p := (subWithBorrow u.par c.a m c.p).p } := rfl

end operations

/-! ### Flags that are replaced twice -/

section flags

variable (v w : Byte) (p : Flags)

theorem withNZ_setNZ : withNZ (setNZ v p) w = withNZ p w := rfl

/-- ADC replaces N and Z whatever they were, in binary and in decimal (rules R201, R203). -/
theorem addWithCarry_setNZ (par : Params) (a m : Byte) :
    addWithCarry par a m (setNZ v p) = addWithCarry par a m p := by
  have hd : inDecimal par (setNZ v p) = inDecimal par p := rfl
  rw [addWithCarry, addWithCarry, hd]
  rfl

end flags

/-! ### The obligations -/

/-- Settles O38: class read for LAX, LAS and NOP, class write for SAX, the byte behind the opcode for the immediate
ones. -/
theorem emulatedLoadsStoresAndImmediates : Obligations.EmulatedLoadsStoresAndImmediates := by
  unfold Obligations.EmulatedLoadsStoresAndImmediates
  intro i s hf hp f m u l a p b result
  refine ⟨fun h => ?_, fun h => ?_, exec_emulated_sax hf hp, fun h hm => ?_, exec_emulated_nop_implied hf hp,
    fun h => ?_, fun h => ?_, fun h hb => ?_, fun h => ?_, fun h => ?_⟩
  · exact (exec_emulated_read hf hp h rfl rfl (emulated_read h rfl s)).trans (congrArg _ (loadAX_setCpu ..))
  · exact (exec_emulated_read hf hp h rfl rfl (emulated_read h rfl s)).trans (congrArg _ (loadASX_setCpu ..))
  · exact exec_emulated_read hf hp h rfl rfl (emulated_nop h hm s)
  · exact (exec_emulated_immediate hf hp h rfl rfl).trans (congrArg _ (ancA_setCpu ..))
  · exact (exec_emulated_immediate hf hp h rfl rfl).trans (congrArg _ (alrA_setCpu ..))
  · have hu : Mnemonic.arr.unstable s = false := Bool.eq_false_iff.mpr (mt inDecimal_iff.mp hb)
    exact (exec_emulated_immediate hf hp h rfl hu).trans (congrArg _ (arrA_setCpu ..))
  · exact (exec_emulated_immediate hf hp h rfl rfl).trans (congrArg _ (sbxX_setCpu ..))
  · rw [exec_emulated_immediate hf hp h rfl rfl, Mnemonic.operandOp, sbc_setCpu, busCycles_par]

/-- Settles O39: the six instructions of class rmw, each with its operation on `A` and the result. -/
theorem emulatedReadModifyWrites : Obligations.EmulatedReadModifyWrites := by
  unfold Obligations.EmulatedReadModifyWrites
  intro i s hf hp f m a p result ok rol ror
  have hslo : shiftLeft m p = ⟨m <<< 1, setNZ (m <<< 1) { p with c := m.getLsbD 7 }⟩ := rfl
  have hrla : rotateLeft m p = ⟨rol, setNZ rol { p with c := m.getLsbD 7 }⟩ := by
    rw [rotateLeft, bitAt_zero]
    rfl
  have hsre : shiftRight m p = ⟨m >>> 1, setNZ (m >>> 1) { p with c := m.getLsbD 0 }⟩ := rfl
  have hrra : rotateRight m p = ⟨ror, setNZ ror { p with c := m.getLsbD 0 }⟩ := rfl
  refine ⟨fun h hq => ?_, fun h hq => ?_, fun h hq => ?_, fun h hq => ?_, fun h hq => ?_, fun h hq => ?_⟩
  · rw [exec_emulated_rmw hf hp h rfl hslo hq, Mnemonic.operandOp, oraA_setCpu, withNZ_setNZ]
  · rw [exec_emulated_rmw hf hp h rfl hrla hq, Mnemonic.operandOp, andA_setCpu, withNZ_setNZ]
  · rw [exec_emulated_rmw hf hp h rfl hsre hq, Mnemonic.operandOp, eorA_setCpu, withNZ_setNZ]
  · rw [exec_emulated_rmw hf hp h rfl hrra hq, Mnemonic.operandOp, adc_setCpu, busCycles_par, addWithCarry_setNZ]
  · exact (exec_emulated_rmw hf hp h rfl rfl hq).trans (congrArg _ (cmpA_setCpu ..))
  · rw [exec_emulated_rmw hf hp h rfl rfl hq, Mnemonic.operandOp, sbc_setCpu, busCycles_par]
    rfl

end Sys2Proof.Machine
end

section
/-!
PROOF. The RIOT: what a read and a write of each register do, and the course of the timer from a write through its
underflow (rules R331 to R340, R342).
-/

namespace Sys2Proof.Machine

/-! ### The registers -/

section registers

variable {sel : BitVec 5}

theorem bitAt_seven_append (b : Bool) : bitAt 7 b = BitVec.ofBool b ++ (0 : BitVec 7) := by
  cases b <;> rfl

theorem riotRead_intim (h2 : sel.getLsbD 2 = true) (h0 : sel.getLsbD 0 = false) (inp : Inputs) (r : Riot) :
    riotRead sel inp r = (r.timer, { r with flag := false }) := by
  simp only [riotRead, h2, h0, if_true, Bool.false_eq_true, if_false]

theorem riotRead_instat (h2 : sel.getLsbD 2 = true) (h0 : sel.getLsbD 0 = true) (inp : Inputs) (r : Riot) :
    riotRead sel inp r = (BitVec.ofBool r.flag ++ (0 : BitVec 7), r) := by
  simp only [riotRead, h2, h0, if_true, bitAt_seven_append]

theorem riotRead_swcha (h2 : sel.getLsbD 2 = false) (h1 : sel.getLsbD 1 = false) (h0 : sel.getLsbD 0 = false)
    (inp : Inputs) (r : Riot) : riotRead sel inp r = (inp.swcha, r) := by
  simp only [riotRead, h2, h1, h0, Bool.false_eq_true, if_false]

theorem riotRead_swchb (h2 : sel.getLsbD 2 = false) (h1 : sel.getLsbD 1 = true) (h0 : sel.getLsbD 0 = false)
    (inp : Inputs) (r : Riot) : riotRead sel inp r = (inp.swchb, r) := by
  simp only [riotRead, h2, h1, h0, if_true, Bool.false_eq_true, if_false]

theorem riotRead_direction (h2 : sel.getLsbD 2 = false) (h0 : sel.getLsbD 0 = true) (inp : Inputs) (r : Riot) :
    riotRead sel inp r = (0x00, r) := by
  simp only [riotRead, h2, h0, if_true, Bool.false_eq_true, if_false]

theorem riotWrite_timer (h4 : sel.getLsbD 4 = true) (h2 : sel.getLsbD 2 = true) (v : Byte) (r : Riot) :
    riotWrite sel v r = ⟨v, intervalOf sel, 0, false⟩ := by
  simp [riotWrite, h4, h2]

theorem riotWrite_inert (h : ¬(sel.getLsbD 4 = true ∧ sel.getLsbD 2 = true)) (v : Byte) (r : Riot) :
    riotWrite sel v r = r := by
  rw [riotWrite, if_neg]
  rw [Bool.and_eq_true]
  exact fun ⟨h2, h4⟩ => h ⟨h4, h2⟩

/-- Table T-1: the two low address bits choose the interval (rule R331). -/
theorem intervalOf_row {row : Nat × Prescale}
    (hrow : row ∈ [(0, Prescale.by1), (1, .by8), (2, .by64), (3, .by1024)]) (hs : sel.toNat % 4 = row.1) :
    intervalOf sel = row.2 := by
  simp only [List.mem_cons, List.not_mem_nil, or_false] at hrow
  rcases hrow with rfl | rfl | rfl | rfl <;> simp [intervalOf, hs]

/-- A read cycle at a RIOT address reads the RIOT as it is after the hold and this cycle's tick (rules R62, R335). -/
theorem rd_of_riot {addr : Word} (hd : decodeBus (busAddr addr) = .riot sel) (s : State) :
    ((rd addr s).1, (rd addr s).2.riot) = riotRead sel s.inp (riotTick (hold s).riot) := by
  rw [rd_value, rd_riot, hd, advanceChips_riot]

end registers

/-- Settles O47: the read of each register, applied to the RIOT after the hold and the tick. -/
theorem riotReadResult : Obligations.RiotReadResult := by
  unfold Obligations.RiotReadResult
  intro s addr sel hd r
  have hrd := rd_of_riot hd s
  refine ⟨fun h2 h0 => ?_, fun h2 h0 => ?_, fun h2 h1 h0 => ?_, fun h2 h1 h0 => ?_⟩
  · exact Prod.mk.inj (hrd.trans (riotRead_intim h2 h0 s.inp r))
  · exact Prod.mk.inj (hrd.trans (riotRead_instat h2 h0 s.inp r))
  · exact Prod.mk.inj (hrd.trans (riotRead_swcha h2 h1 h0 s.inp r))
  · exact Prod.mk.inj (hrd.trans (riotRead_swchb h2 h1 h0 s.inp r))

/-- Settles O48: the write of a timer register, of any other register, and the read of a direction register, each
after this cycle's tick. -/
theorem riotWriteResult : Obligations.RiotWriteResult := by
  unfold Obligations.RiotWriteResult
  intro s addr sel v hd
  have hwr : (wr addr v s).riot = riotWrite sel v (riotTick s.riot) := by rw [wr_riot, hd]
  refine ⟨fun row hrow h4 h2 hs => ?_, fun h => ?_, fun h2 h0 => ?_⟩
  · rw [hwr, riotWrite_timer h4 h2, intervalOf_row hrow hs]
  · rw [hwr, riotWrite_inert h]
  · exact Prod.mk.inj ((rd_of_riot hd s).trans (riotRead_direction h2 h0 _ _))

/-! ### One tick -/

section tick

variable {r : Riot}

/-- Between two counts of the prescaler the timer waits (rule R335). -/
theorem riotTick_of_waiting (hf : r.flag = false) (hs : r.sub.toNat % cyclesOf r.interval ≠ 0) :
    riotTick r = { r with sub := r.sub + 1 } := by
  simp only [riotTick, hf, hs, decide_false, Bool.or_false, Bool.false_eq_true, if_false]

/-- A tick that counts takes 1 from the timer, modulo 256, and sets the flag where the timer was 0 (rules R335,
R336). -/
theorem riotTick_of_counting (h : r.flag = true ∨ r.sub.toNat % cyclesOf r.interval = 0) :
    riotTick r =
      { r with timer := r.timer - 1, sub := r.sub + 1, flag := r.flag || decide (r.timer = 0x00) } := by
  have hc : (r.flag || decide (r.sub.toNat % cyclesOf r.interval = 0)) = true := by
    rwa [Bool.or_eq_true, decide_eq_true_eq]
  by_cases ht : r.timer = 0x00
  · have hw : r.timer - 1 = 0xFF := by rw [ht]; rfl
    simp only [riotTick, if_pos hc, if_pos ht, hw, decide_eq_true ht, Bool.or_true]
  · simp only [riotTick, if_pos hc, if_neg ht, decide_eq_false ht, Bool.or_false]

end tick

/-! ### The course of the timer -/

theorem runRiot_succ (k : Nat) (r : Riot) : runRiot (k + 1) r = riotTick (runRiot k r) := by
  induction k generalizing r with
  | zero => rfl
  | succ k ih => rw [runRiot, ih, runRiot]

theorem runRiot_add (k j : Nat) (r : Riot) : runRiot (k + j) r = runRiot j (runRiot k r) := by
  induction j with
  | zero => rfl
  | succ j ih => rw [← Nat.add_assoc, runRiot_succ, ih, runRiot_succ]

/-- After the underflow the timer counts down once a tick, and the flag stays (rules R335, R336). -/
theorem runRiot_of_flag {r : Riot} (hf : r.flag = true) (j : Nat) :
    (runRiot j r).timer = r.timer - BitVec.ofNat 8 j ∧ (runRiot j r).flag = true := by
  induction j with
  | zero => exact ⟨(BitVec.sub_zero _).symm, hf⟩
  | succ j ih =>
    obtain ⟨ht, hj⟩ := ih
    rw [runRiot_succ, riotTick_of_counting (.inl hj)]
    exact ⟨by rw [ht, BitVec.ofNat_add]; exact sub_sub _ _ _, by rw [hj, Bool.true_or]⟩

section course

variable (p : Prescale) (k : Nat)

theorem cyclesOf_pos : 0 < cyclesOf p := by
  cases p <;> decide

/-- The ten bits of the prescaler are enough for every interval (rules R32, R334). -/
theorem ofNat_sub_mod_cyclesOf : (BitVec.ofNat 10 k).toNat % cyclesOf p = k % cyclesOf p := by
  have hdvd : cyclesOf p ∣ 2 ^ 10 := by cases p <;> decide
  rw [BitVec.toNat_ofNat, Nat.mod_mod_of_dvd k hdvd]

/-- How often the timer counts in the first `k` ticks after a write: at the first tick, and then once an interval. -/
def countsIn : Nat := (k + (cyclesOf p - 1)) / cyclesOf p

theorem countsIn_succ : countsIn p (k + 1) = k / cyclesOf p + 1 := by
  have hpos := cyclesOf_pos p
  have hk : k + 1 + (cyclesOf p - 1) = k + cyclesOf p := by omega
  rw [countsIn, hk, Nat.add_div_right k hpos]

/-- After a whole number of intervals the timer has counted once for each. -/
theorem countsIn_mul (q : Nat) : countsIn p (q * cyclesOf p) = q := by
  have hpos := cyclesOf_pos p
  rw [countsIn, Nat.mul_comm, Nat.mul_add_div hpos, Nat.div_eq_of_lt (by omega), Nat.add_zero]

theorem countsIn_of_mod_ne {p : Prescale} {k : Nat} (h : k % cyclesOf p ≠ 0) :
    countsIn p k = k / cyclesOf p + 1 := by
  cases k with
  | zero => exact absurd (Nat.zero_mod _) h
  | succ m => rw [countsIn_succ, Nat.succ_div_of_not_dvd (mt Nat.mod_eq_zero_of_dvd h)]

/-- The RIOT `k` ticks after a write of `v`, before the underflow. -/
def countingRiot (v : Byte) : Riot := ⟨v - BitVec.ofNat 8 (countsIn p k), p, BitVec.ofNat 10 k, false⟩

variable {p k} {v : Byte}

/-- The tick after a whole number of intervals counts (rules R334, R335). -/
theorem riotTick_countingRiot_mul (q : Nat) :
    riotTick (countingRiot p (q * cyclesOf p) v) =
      { countingRiot p (q * cyclesOf p + 1) v with flag := decide (v = BitVec.ofNat 8 q) } := by
  have hpos := cyclesOf_pos p
  rw [riotTick_of_counting (.inr ((ofNat_sub_mod_cyclesOf p _).trans (Nat.mul_mod_left q _)))]
  simp only [countingRiot, countsIn_mul, countsIn_succ, Nat.mul_div_cancel q hpos, BitVec.ofNat_add, Bool.false_or]
  congr 1
  · exact sub_sub _ _ _
  · exact decide_eq_decide.mpr sub_eq_zero

theorem riotTick_countingRiot_of_mod_ne (h : k % cyclesOf p ≠ 0) :
    riotTick (countingRiot p k v) = countingRiot p (k + 1) v := by
  rw [riotTick_of_waiting rfl (by rwa [countingRiot, ofNat_sub_mod_cyclesOf])]
  simp only [countingRiot, countsIn_of_mod_ne h, countsIn_succ, BitVec.ofNat_add]
  rfl

/-- Up to the end of the last interval the timer has counted and not passed 0 (rules R334, R335). -/
theorem runRiot_eq_countingRiot (hk : k ≤ v.toNat * cyclesOf p) :
    runRiot k ⟨v, p, 0, false⟩ = countingRiot p k v := by
  induction k with
  | zero =>
    have hc : countsIn p 0 = 0 := by simpa using countsIn_mul p 0
    rw [countingRiot, hc, BitVec.sub_zero]
    rfl
  | succ k ih =>
    rw [runRiot_succ, ih (by omega)]
    by_cases hm : k % cyclesOf p = 0
    · obtain ⟨q, rfl⟩ := exists_eq_mul_left_of_dvd (Nat.dvd_of_mod_eq_zero hm)
      have hq : q < v.toNat := Nat.lt_of_mul_lt_mul_right hk
      have hv : v ≠ BitVec.ofNat 8 q := by rintro rfl; exact absurd hq (by simp [Nat.mod_le])
      rw [riotTick_countingRiot_mul, decide_eq_false hv]
      rfl
    · exact riotTick_countingRiot_of_mod_ne hm

/-- The tick after the last interval takes the timer below 0 (rules R335, R336). -/
theorem runRiot_underflow (v : Byte) (p : Prescale) :
    (runRiot (v.toNat * cyclesOf p + 1) ⟨v, p, 0, false⟩).timer = 0xFF ∧
      (runRiot (v.toNat * cyclesOf p + 1) ⟨v, p, 0, false⟩).flag = true := by
  have hv : v = BitVec.ofNat 8 v.toNat := (BitVec.ofNat_toNat 8 v).symm
  rw [runRiot_succ, runRiot_eq_countingRiot le_rfl, riotTick_countingRiot_mul]
  refine ⟨?_, decide_eq_true hv⟩
  rw [countingRiot, countsIn_succ, Nat.mul_div_cancel _ (cyclesOf_pos p), BitVec.ofNat_add, ← hv,
    ← BitVec.sub_sub, BitVec.sub_self]
  rfl

end course

/-- Settles O49: up to the last interval the timer is `countingRiot`; the next tick underflows it, and from there every
tick counts. -/
theorem timerCourseAfterWrite : Obligations.TimerCourseAfterWrite := by
  unfold Obligations.TimerCourseAfterWrite
  intro v p n r
  refine ⟨fun k h1 hk => ?_, fun j => ?_⟩
  · rw [runRiot_eq_countingRiot hk]
    obtain ⟨m, rfl⟩ : ∃ m, k = m + 1 := ⟨k - 1, by omega⟩
    have hm : m / n < v.toNat := Nat.div_lt_of_lt_mul (by rwa [Nat.mul_comm])
    refine ⟨?_, rfl⟩
    have hc : countsIn p (m + 1) = m / n + 1 := countsIn_succ p m
    rw [countingRiot, hc, Nat.add_sub_cancel]
    generalize m / n = c at hm ⊢
    bv_omega
  · obtain ⟨ht, hf⟩ := runRiot_underflow v p
    rw [runRiot_add, ← ht]
    exact runRiot_of_flag hf j

end Sys2Proof.Machine
end

section
/-!
PROOF. The registers of the TIA: what a read drives, and what a write to each of them leaves, the position strobes and
the motion registers included (rules R362, R363, R373 to R394, R415, R416, R441).
-/

namespace Sys2Proof.Machine

/-! ### Reads -/

/-- The two driven bits on top of the six undriven ones (rules R70, R363). -/
theorem bitAt_or_low (b7 b6 : Bool) (d : Byte) :
    bitAt 7 b7 ||| bitAt 6 b6 ||| (d &&& 0x3F) = BitVec.ofBool b7 ++ BitVec.ofBool b6 ++ d.setWidth 6 := by
  apply BitVec.eq_of_getLsbD_eq
  intro i hi
  rw [BitVec.getLsbD_append, BitVec.getLsbD_append]
  interval_cases i <;> simp [bitAt]

section reads

variable {inp : Inputs} {t : Tia} {reg : BitVec 6} (dbus : Byte)

theorem tiaRead_of_driven {b7 b6 : Bool} (h : drivenBits inp t reg = some (b7, b6)) :
    tiaRead inp dbus t reg = BitVec.ofBool b7 ++ BitVec.ofBool b6 ++ dbus.setWidth 6 := by
  rw [tiaRead, h]
  exact bitAt_or_low b7 b6 dbus

theorem tiaRead_of_undriven (h : reg.toNat % 16 = 0xE ∨ reg.toNat % 16 = 0xF) : tiaRead inp dbus t reg = dbus := by
  have hn : drivenBits inp t reg = none := by
    rcases h with h | h <;> simp [drivenBits, h]
  rw [tiaRead, hn]

end reads

/-- Settles O50: a read leaves the TIA to its clock, and each register drives its row of table V-2. -/
theorem tiaReadResult : Obligations.TiaReadResult := by
  unfold Obligations.TiaReadResult
  intro s addr reg hd t cx dump level
  have hrd : (rd addr s).1 = tiaRead s.inp s.dbus t reg := by rw [rd_value, hd]
  refine ⟨?_, fun row hrow hr => ?_, fun h => ?_⟩
  · rw [rd_tia, advanceChips_runTia, hold_par, hold_inp]
  · rw [hrd]
    apply tiaRead_of_driven
    simp only [List.mem_cons, List.not_mem_nil, or_false] at hrow
    rcases hrow with rfl | rfl | rfl | rfl | rfl | rfl | rfl | rfl | rfl | rfl | rfl | rfl | rfl | rfl <;>
      simp only [drivenBits, hr] <;> rfl
  · rw [hrd, tiaRead_of_undriven s.dbus h]

/-! ### The plain write registers -/

theorem highNibble_eq_ofNat (v : Byte) : highNibble v = BitVec.ofNat 4 (v.toNat / 16) := by
  rw [highNibble, BitVec.extractLsb', Nat.shiftRight_eq_div_pow]

/-- RSYNC and the addresses behind the last register write nothing (rules R362, R373). -/
theorem tiaStore_unassigned {reg : BitVec 6} (h : reg = 0x03 ∨ 0x2D ≤ reg.toNat) (m : Nat) (v : Byte) (t : Tia) :
    tiaStore m reg v t = t := by
  rcases h with rfl | h
  · rfl
  · unfold tiaStore
    split
    case h_45 => rfl
    all_goals omega

/-- Settles O51: the write is `tiaStore` on the TIA after its cycle, whose row for the register is the clause. -/
theorem tiaRegisterWriteResult : Obligations.TiaRegisterWriteResult := by
  unfold Obligations.TiaRegisterWriteResult
  intro s addr reg v hd
  dsimp only
  rw [wr_tia v s hd, ← highNibble_eq_ofNat, BitVec.ofNat_toNat, BitVec.ofNat_toNat]
  generalize runTia s.par s.inp 3 s.tia = t
  and_intros
  on_goal 30 => exact fun h => tiaStore_unassigned h _ v t
  all_goals
    rintro rfl
    rfl

/-- Settles O52: the two writes by their definitions, `graphics` by the delay bit. -/
theorem playerGraphicsAreDelayed : Obligations.PlayerGraphicsAreDelayed := by
  unfold Obligations.PlayerGraphicsAreDelayed
  refine ⟨fun s addr v => ⟨fun hd => ?_, fun hd => ?_⟩, fun p => ⟨fun h => ?_, fun h => ?_⟩⟩
  · rw [wr_tia v s hd]
    exact (rfl : tiaStore _ 0x1B v _ = writeGrp0 v _)
  · rw [wr_tia v s hd]
    exact (rfl : tiaStore _ 0x1C v _ = writeGrp1 v _)
  · rw [graphics, if_pos h]
  · rw [graphics, if_neg (ne_true_of_eq_false h)]

/-! ### Positions and motion -/

theorem strobePos_val {blank : Nat} (hb : blank < 160) (delay : Nat) (h : Fin 228) :
    (strobePos blank delay h).val = if h.val < 68 then blank else (h.val - 68 + delay) % 160 := by
  unfold strobePos
  split
  · exact Nat.mod_eq_of_lt hb
  · rfl

/-- The motion register is taken from the position modulo 160 (rules R392, R393). -/
theorem moved_val (pos : Fin 160) (hm : BitVec 4) :
    ((moved pos hm).val : Int) = ((pos.val : Int) - hm.toInt) % 160 := by
  have hlt : hm.toInt < 8 := BitVec.toInt_lt
  have hval : (moved pos hm).val = ((pos.val : Int) + 160 - hm.toInt).toNat % 160 := rfl
  omega

theorem centre_eq_ite (nusiz : BitVec 6) :
    centre nusiz = if nusiz.toNat % 8 = 5 then 8 else if nusiz.toNat % 8 = 7 then 16 else 4 := by
  unfold centre
  split
  · next h => rw [if_pos h]
  · next h => rw [if_neg (by omega), if_pos h]
  · next h5 h7 => rw [if_neg h5, if_neg h7]

section lock

variable (v : Byte) (p : Player) (m : Missile)

theorem lockMissile_eq :
    lockMissile v p m = { m with resmp := v.getLsbD 1, pos := (lockMissile v p m).pos } := by
  unfold lockMissile
  split
  · next h =>
    have hv : v.getLsbD 1 = false := by simpa [bit] using (Bool.and_eq_true_iff.mp h).2
    rw [hv]
  · rfl

/-- Only the release of a locked missile moves it (rule R391). -/
theorem lockMissile_pos_val :
    (lockMissile v p m).pos.val =
      if m.resmp = true ∧ v.getLsbD 1 = false then (p.pos.val + centre p.nusiz) % 160 else m.pos.val := by
  have hc : (m.resmp && !bit v 1) = true ↔ m.resmp = true ∧ v.getLsbD 1 = false := by
    rw [Bool.and_eq_true, Bool.not_eq_true', bit]
  unfold lockMissile
  simp only [hc]
  split <;> rfl

end lock

/-- Settles O53: the strobes by `strobePos`, RESMP by `lockMissile`, HMOVE by `moved`; each write is its row of
`tiaStore`. -/
theorem strobesPlaceTheObjects : Obligations.StrobesPlaceTheObjects := by
  unfold Obligations.StrobesPlaceTheObjects
  intro s addr reg v hd
  dsimp only
  rw [wr_tia v s hd]
  generalize runTia s.par s.inp 3 s.tia = t
  have hplayer := strobePos_val (blank := 3) (by decide) 5 t.beam.hcount
  have hmissile := strobePos_val (blank := 2) (by decide) 4 t.beam.hcount
  simp only [← centre_eq_ite]
  refine ⟨?_, ?_, ?_, ?_, ?_, ?_, ?_, ?_, ?_⟩ <;> rintro rfl
  · exact ⟨rfl, hplayer⟩
  · exact ⟨rfl, hplayer⟩
  · exact ⟨rfl, hmissile⟩
  · exact ⟨rfl, hmissile⟩
  · exact ⟨rfl, hmissile⟩
  · exact ⟨congrArg (fun m => { t with m0 := m }) (lockMissile_eq v t.p0 t.m0), lockMissile_pos_val v t.p0 t.m0⟩
  · exact ⟨congrArg (fun m => { t with m1 := m }) (lockMissile_eq v t.p1 t.m1), lockMissile_pos_val v t.p1 t.m1⟩
  · exact ⟨moved_val _ _, moved_val _ _, moved_val _ _, moved_val _ _, moved_val _ _, rfl⟩
  · rfl

end Sys2Proof.Machine
end

section
/-!
PROOF. The picture: which columns the playfield and the movable objects cover, and the colour by priority (rules R365,
R376, R380, R388, R389, R396 to R398, R404).
-/

namespace Sys2Proof.Machine

/-! ### The playfield -/

/-- Bit `i` of the twenty of the playfield, from the left (rule R380). -/
def patternBit (f : Playfield) (i : Nat) : Bool :=
  if i < 4 then f.pf0.getLsbD i else if i < 12 then f.pf1.getLsbD (11 - i) else f.pf2.getLsbD (i - 12)

/-- The playfield of a half line (rule R380). -/
def playfieldPattern (f : Playfield) : List Bool := (List.range 20).map (patternBit f)

theorem playfieldPattern_getElem? (f : Playfield) {i : Nat} (hi : i < 20) :
    (playfieldPattern f)[i]? = some (patternBit f i) := by
  simp [playfieldPattern, hi]

theorem playfieldPattern_reverse_getElem? (f : Playfield) {i : Nat} (hi : i < 20) :
    (playfieldPattern f).reverse[i]? = some (patternBit f (19 - i)) := by
  rw [List.getElem?_reverse (by simpa [playfieldPattern] using hi)]
  simpa [playfieldPattern] using playfieldPattern_getElem? f (i := 20 - 1 - i) (by omega)

theorem pfBit_left {x : Nat} (h : x / 4 < 20) (f : Playfield) : pfBit x f = patternBit f (x / 4) := by
  simp only [pfBit, if_pos h, patternBit]

theorem pfBit_right {x : Nat} (h : ¬x / 4 < 20) (f : Playfield) :
    pfBit x f = patternBit f (if f.ctrlpf.getLsbD 0 then 39 - x / 4 else x / 4 - 20) := by
  simp only [pfBit, if_neg h, patternBit]

/-- The playfield bit of a column, in the left half and in the right one, repeated or mirrored (rule R380). -/
theorem playfieldPattern_line (f : Playfield) {x : Nat} (hx : x < 160) :
    (playfieldPattern f ++ if f.ctrlpf.getLsbD 0 then (playfieldPattern f).reverse else playfieldPattern f)[x / 4]? =
      some (pfBit x f) := by
  have hlen : (playfieldPattern f).length = 20 := by simp [playfieldPattern]
  by_cases hc : x / 4 < 20
  · rw [List.getElem?_append_left (hlen ▸ hc), pfBit_left hc, playfieldPattern_getElem? f hc]
  · rw [List.getElem?_append_right (by omega), pfBit_right hc, hlen]
    split
    · rw [playfieldPattern_reverse_getElem? f (by omega)]
      congr 2
      omega
    · exact playfieldPattern_getElem? f (by omega)

/-! ### The movable objects -/

theorem copies_eq_getD (nusiz : BitVec 6) :
    copies nusiz =
      [[0], [0, 16], [0, 32], [0, 16, 32], [0, 64], [0], [0, 32, 64], [0]].getD (nusiz.toNat % 8) [] := by
  have hn : nusiz.toNat % 8 < 8 := Nat.mod_lt _ (by decide)
  unfold copies
  generalize nusiz.toNat % 8 = n at hn
  interval_cases n <;> rfl

theorem le_of_mem_copies {nusiz : BitVec 6} {o : Nat} (h : o ∈ copies nusiz) : o ≤ 64 := by
  unfold copies at h
  split at h <;> simp at h <;> omega

theorem playerScale_eq_ite (nusiz : BitVec 6) :
    playerScale nusiz = if nusiz.toNat % 8 = 5 then 2 else if nusiz.toNat % 8 = 7 then 4 else 1 := by
  unfold playerScale
  split
  · next h => rw [if_pos h]
  · next h => rw [if_neg (by omega), if_pos h]
  · next h5 h7 => rw [if_neg h5, if_neg h7]

/-- The distance from a copy's left edge to the column, modulo 160 (rules R396 to R398). -/
theorem eq_offsetIn_iff {o : Nat} (ho : o ≤ 64) (x : Nat) (pos : Fin 160) (d : Nat) :
    (d : Int) = ((x : Int) - pos.val - o) % 160 ↔ d = offsetIn x pos o := by
  unfold offsetIn
  omega

/-- A condition on that distance is a condition on `offsetIn`. -/
theorem exists_column_iff {o : Nat} (ho : o ≤ 64) (x : Nat) (pos : Fin 160) (p : Nat → Prop) :
    (∃ d : Nat, (d : Int) = ((x : Int) - pos.val - o) % 160 ∧ p d) ↔ p (offsetIn x pos o) := by
  simp only [eq_offsetIn_iff ho, exists_eq_left]

section objects

variable (x : Nat) (pos : Fin 160) (nusiz : BitVec 6)

theorem exists_copy_column_iff (p : Nat → Prop) :
    (∃ o ∈ copies nusiz, ∃ d : Nat, (d : Int) = ((x : Int) - pos.val - o) % 160 ∧ p d) ↔
      ∃ o ∈ copies nusiz, p (offsetIn x pos o) :=
  exists_congr fun _ => and_congr_right fun ho => exists_column_iff (le_of_mem_copies ho) x pos p

theorem playerBit_iff (refp : Bool) (g : Byte) :
    playerBit x pos nusiz refp g = true ↔
      ∃ o ∈ copies nusiz, ∃ d : Nat, (d : Int) = ((x : Int) - pos.val - o) % 160 ∧ d < 8 * playerScale nusiz ∧
        graphicsBit refp g (d / playerScale nusiz) = true := by
  rw [exists_copy_column_iff]
  simp only [playerBit, List.any_eq_true, Bool.and_eq_true, decide_eq_true_eq]

theorem missileBit_iff (enam resmp : Bool) :
    missileBit x pos nusiz enam resmp = true ↔
      enam = true ∧ resmp = false ∧ ∃ o ∈ copies nusiz, ∃ d : Nat, (d : Int) = ((x : Int) - pos.val - o) % 160 ∧
        d < objectWidth nusiz := by
  rw [exists_copy_column_iff]
  simp only [missileBit, List.any_eq_true, Bool.and_eq_true, Bool.not_eq_true', decide_eq_true_eq, and_assoc]

theorem ballBit_iff (b : Ball) (ctrlpf : BitVec 6) :
    ballBit x b ctrlpf = true ↔
      (if b.vdel then b.enablOld else b.enablNew) = true ∧
        ∃ d : Nat, (d : Int) = ((x : Int) - b.pos.val - (0 : Nat)) % 160 ∧ d < objectWidth ctrlpf := by
  rw [exists_column_iff (Nat.zero_le 64)]
  simp only [ballBit, Bool.and_eq_true, decide_eq_true_eq]

end objects

/-- Settles O56: the registers by `activeAt`, the playfield by its pattern, each other object by the distance of the
column from a copy. -/
theorem playfieldAndObjectsCoverTheirColumns : Obligations.PlayfieldAndObjectsCoverTheirColumns := by
  unfold Obligations.PlayfieldAndObjectsCoverTheirColumns
  refine ⟨fun t x => ⟨rfl, rfl, rfl, rfl, rfl, rfl⟩, fun f x hx => playfieldPattern_line f hx,
    fun x pos nusiz _ => ?_⟩
  dsimp only
  rw [← copies_eq_getD, ← playerScale_eq_ite]
  refine ⟨playerBit_iff x pos nusiz, missileBit_iff x pos nusiz, ?_⟩
  rintro b ctrlpf rfl
  exact ballBit_iff x b ctrlpf

/-! ### Colour by priority -/

section colour

variable {t : Tia} (x : Nat) (o : Active)

theorem colour_of_pfp (h : t.pf.ctrlpf.getLsbD 2 = true) :
    colour t x o =
      if o.pf = true ∨ o.bl = true then t.pf.colupf
      else if o.p0 = true ∨ o.m0 = true then t.p0.colup
      else if o.p1 = true ∨ o.m1 = true then t.p1.colup
      else t.pf.colubk := by
  simp only [colour, if_pos h, Bool.or_eq_true]

theorem colour_of_not_pfp (h : t.pf.ctrlpf.getLsbD 2 = false) :
    colour t x o =
      if (o.p0 = true ∨ o.m0 = true) ∨ (t.pf.ctrlpf.getLsbD 1 = true ∧ o.pf = true ∧ x < 80) then t.p0.colup
      else if (o.p1 = true ∨ o.m1 = true) ∨ (t.pf.ctrlpf.getLsbD 1 = true ∧ o.pf = true ∧ 80 ≤ x) then t.p1.colup
      else if o.pf = true ∨ o.bl = true then t.pf.colupf
      else t.pf.colubk := by
  simp only [colour, h, Bool.false_eq_true, if_false, Bool.or_eq_true, Bool.and_eq_true, decide_eq_true_eq, and_assoc]

end colour

/-- Settles O57: each clause is one branch of `colour`, with PFP set or clear. -/
theorem colourFollowsPriority : Obligations.ColourFollowsPriority := by
  unfold Obligations.ColourFollowsPriority
  intro t x o pfp score left right first second field
  refine ⟨fun hp h => ?_, fun hp h h1 => ?_, fun hp h h1 h2 => ?_, fun hp h h1 h2 => ?_,
    fun hp h => ?_, fun hp h h1 => ?_, fun hp h h1 h2 => ?_, fun hp h h1 h2 => ?_⟩
  · rw [colour_of_pfp x o hp, if_pos h]
  · rw [colour_of_pfp x o hp, if_neg h, if_pos h1]
  · rw [colour_of_pfp x o hp, if_neg h, if_neg h1, if_pos h2]
  · rw [colour_of_pfp x o hp, if_neg h, if_neg h1, if_neg h2]
  · rw [colour_of_not_pfp x o hp, if_pos h]
  · rw [colour_of_not_pfp x o hp, if_neg h, if_pos h1]
  · rw [colour_of_not_pfp x o hp, if_neg h, if_neg h1, if_pos h2]
  · rw [colour_of_not_pfp x o hp, if_neg h, if_neg h1, if_neg h2]

end Sys2Proof.Machine
end

section
/-!
PROOF. The output of a chip-cycle: the pixel, the end of the line, the sample (rules R364, R365, R368, R370, R394,
R442).
-/

namespace Sys2Proof.Machine

theorem columnOf_eq_some_iff {b : Beam} {x : Nat} :
    columnOf b = some x ↔ 68 ≤ b.hcount.val ∧ ¬(b.hmoveBlank = true ∧ b.hcount.val < 76) ∧ x = b.hcount.val - 68 := by
  by_cases hb : b.hcount.val < 68 ∨ (b.hmoveBlank = true ∧ b.hcount.val < 76)
  · rw [columnOf_blank hb]
    refine iff_of_false nofun ?_
    rintro ⟨h68, h76, -⟩
    exact hb.elim (not_lt.mpr h68) h76
  · obtain ⟨h68, h76⟩ := not_or.mp hb
    rw [columnOf_drawn (not_lt.mp h68) h76, Option.some.injEq]
    exact ⟨fun hx => ⟨not_lt.mp h68, h76, hx.symm⟩, fun ⟨_, _, hx⟩ => hx.symm⟩

theorem shows_iff (par : Params) (t : Tia) :
    shows par t = true ↔
      t.sync.vblank = false ∧ par.fbFirstLine ≤ t.beam.line ∧ t.beam.line < par.fbFirstLine + par.fbLines := by
  simp only [shows, Bool.and_eq_true, Bool.not_eq_true', decide_eq_true_eq]

section events

variable (par : Params) (t : Tia)

/-! ### The three parts of a chip-cycle -/

theorem drawPixel_events :
    (drawPixel par t).2 =
      if shows par t then
        (columnOf t.beam).toList.map fun x =>
          .pixel (t.beam.line - par.fbFirstLine) x (colour t x (activeAt t x))
      else [] := by
  unfold drawPixel
  cases columnOf t.beam with
  | none => exact (ite_self _).symm
  | some x => rfl

theorem clockAudio_events :
    (clockAudio par t).2 =
      if t.beam.hcount = par.audioPhaseA ∨ t.beam.hcount = par.audioPhaseB then [.sample (audioClock t).2] else [] := by
  unfold clockAudio
  split <;> rfl

theorem advanceBeam_events : (advanceBeam t).2 = if t.beam.hcount = 227 then [.endOfScanline] else [] := by
  unfold advanceBeam
  split <;> rfl

theorem drawPixel_eq : (drawPixel par t).1 = { t with cx := (drawPixel par t).1.cx } := by
  unfold drawPixel
  split
  · rfl
  · dsimp only
    split <;> rfl

/-- The tone generators alone move on, so the beam keeps its place. -/
theorem clockAudio_beam : (clockAudio par t).1.beam = t.beam := by
  unfold clockAudio
  split <;> rfl

/-! ### The chip-cycle -/

/-- Latching the inputs, drawing and sounding leave no trace in what the later parts put out: the output of a chip-cycle
is that of its three parts on the TIA as it was (rule R365). -/
theorem tiaClock_events (inp : Inputs) :
    (tiaClock par inp t).2 = (advanceBeam t).2 ++ (clockAudio par t).2 ++ (drawPixel par t).2 := by
  have hsound : ∀ (l : InputLatches) (c : Collisions),
      (clockAudio par { t with latch := l, cx := c }).2 = (clockAudio par t).2 := fun l c => by
    rw [clockAudio_events, clockAudio_events]
    rfl
  have hdraw : ∀ l, (drawPixel par { t with latch := l }).2 = (drawPixel par t).2 := fun l => by
    rw [drawPixel_events, drawPixel_events]
    rfl
  simp only [tiaClock]
  rw [advanceBeam_events, clockAudio_beam, latchInputs_eq, drawPixel_eq]
  rw [hsound, hdraw, ← advanceBeam_events t]

/-- What can be in the output, and when (rules R365, R368, R370, R394, R442). -/
theorem mem_tiaClock_events (inp : Inputs) (e : OutEvent) :
    e ∈ (tiaClock par inp t).2 ↔
      (t.beam.hcount = 227 ∧ e = .endOfScanline) ∨
      ((t.beam.hcount = par.audioPhaseA ∨ t.beam.hcount = par.audioPhaseB) ∧ e = .sample (audioClock t).2) ∨
      (shows par t = true ∧ ∃ x, columnOf t.beam = some x ∧
        e = .pixel (t.beam.line - par.fbFirstLine) x (colour t x (activeAt t x))) := by
  rw [tiaClock_events, advanceBeam_events, clockAudio_events, drawPixel_events, List.mem_append, List.mem_append,
    or_assoc]
  refine or_congr ?_ (or_congr ?_ ?_)
  · rw [List.mem_ite_nil_right, List.mem_singleton]
  · rw [List.mem_ite_nil_right, List.mem_singleton]
  · rw [List.mem_ite_nil_right, List.mem_map]
    simp only [Option.mem_toList, eq_comm]

end events

/-- Settles O58: the output by `mem_tiaClock_events`, one kind of event at a time. -/
theorem chipCycleOutput : Obligations.ChipCycleOutput := by
  unfold Obligations.ChipCycleOutput
  intro par inp t out h
  have hmem : ∀ e, e ∈ out ↔ _ := mem_tiaClock_events par t inp
  have hlast : t.beam.hcount = 227 ↔ h = 227 := Fin.ext_iff
  refine ⟨fun row x c => ?_, ?_, ?_, ?_, tiaClock_hcount_val par inp t⟩
  · simp only [hmem, shows_iff, columnOf_eq_some_iff, reduceCtorEq, and_false, false_or, OutEvent.pixel.injEq]
    constructor
    · rintro ⟨⟨hv, hf, hl⟩, _, ⟨h68, h76, rfl⟩, rfl, rfl, rfl⟩
      exact ⟨h68, h76, hv, hf, hl, rfl, rfl, rfl⟩
    · rintro ⟨h68, h76, hv, hf, hl, rfl, rfl, rfl⟩
      exact ⟨⟨hv, hf, hl⟩, _, ⟨h68, h76, rfl⟩, rfl, rfl, rfl⟩
  · simp only [hmem, hlast, reduceCtorEq, and_false, exists_false, or_false, and_true]
  · simp only [hmem, reduceCtorEq, and_false, exists_false, or_false, false_or, OutEvent.sample.injEq,
      exists_and_left, exists_eq, and_true]
  · simp only [hmem, reduceCtorEq, and_false, exists_false, or_false, not_false_eq_true]

end Sys2Proof.Machine
end

section
/-!
PROOF. The tone generators: the divider and the sample of every waveform generator, and the default generator type by
type (rules R441, R443, R446).
-/

namespace Sys2Proof.Machine

/-! ### The divider and the sample -/

section channels

variable {c : Channel}

theorem channelClock_of_meets (h : c.adiv = c.audf) :
    channelClock c = { c with adiv := 0, awave := waveStep c.audc c.awave } := if_pos h

theorem channelClock_of_counts (h : c.adiv ≠ c.audf) : channelClock c = { c with adiv := c.adiv + 1 } := if_neg h

theorem channelOut_le (c : Channel) : channelOut c ≤ 15 := by
  have hv := c.audv.isLt
  unfold channelOut
  split <;> omega

/-- A channel that moves on with a constant type puts out its volume, whatever the generator (rule R446 (b)). -/
theorem channelOut_channelClock_of_constantType (h : c.adiv = c.audf) (hc : constantType c.audc = true) :
    channelOut (channelClock c) = c.audv.toNat := by
  rw [channelClock_of_meets h]
  exact if_pos (waveOut_constantType hc c.awave)

end channels

/-- Settles O59: the sample is the sum of `channelOut` over the two channels, and both move on by `channelClock`. -/
theorem audioSampleIsVolumeWeighted : Obligations.AudioSampleIsVolumeWeighted := by
  unfold Obligations.AudioSampleIsVolumeWeighted
  intro t u level
  have hmoved : ∀ pair ∈ [(t.ch0, u.ch0), (t.ch1, u.ch1)], pair.2 = channelClock pair.1 :=
    List.forall_mem_cons.mpr ⟨rfl, List.forall_mem_singleton.mpr rfl⟩
  refine ⟨rfl, Nat.add_le_add (channelOut_le (channelClock t.ch0)) (channelOut_le (channelClock t.ch1)), rfl,
    fun pair hpair => ?_⟩
  rw [hmoved pair hpair]
  exact ⟨channelClock_of_meets, channelClock_of_counts, fun h hc =>
    channelOut_channelClock_of_constantType h (decide_eq_true hc)⟩

/-! ### The polynomial counters as arithmetic -/

/-- The new bit enters bit 0, which the shift left free. -/
theorem shiftLeft_one_or_ofBool {k : Nat} (p : BitVec (k + 1)) (b : Bool) :
    p <<< 1 ||| (BitVec.ofBool b).setWidth (k + 1) = BitVec.ofNat (k + 1) (2 * p.toNat + b.toNat) := by
  have hfree : p <<< 1 &&& (BitVec.ofBool b).setWidth (k + 1) = 0#(k + 1) := by
    ext i hi
    cases i <;> simp
  have hshift : p <<< 1 = BitVec.ofNat (k + 1) (2 * p.toNat) := by
    apply BitVec.eq_of_toNat_eq
    rw [BitVec.toNat_shiftLeft, BitVec.toNat_ofNat, Nat.shiftLeft_eq, Nat.mul_comm, Nat.pow_one]
  have hbit : (BitVec.ofBool b).setWidth (k + 1) = BitVec.ofNat (k + 1) b.toNat := by
    apply BitVec.eq_of_toNat_eq
    rw [BitVec.toNat_setWidth, BitVec.toNat_ofBool, BitVec.toNat_ofNat]
  rw [← BitVec.add_eq_or_of_and_eq_zero _ _ hfree, hshift, hbit, BitVec.ofNat_add]

theorem lfsr4_eq_ofNat (p : BitVec 4) :
    lfsr4 p = BitVec.ofNat 4 (2 * p.toNat + (p.getLsbD 3 ^^ p.getLsbD 2).toNat) := shiftLeft_one_or_ofBool p _

theorem lfsr5_eq_ofNat (p : BitVec 5) :
    lfsr5 p = BitVec.ofNat 5 (2 * p.toNat + (p.getLsbD 4 ^^ p.getLsbD 2).toNat) := shiftLeft_one_or_ofBool p _

theorem lfsr9_eq_ofNat (p : BitVec 9) :
    lfsr9 p = BitVec.ofNat 9 (2 * p.toNat + (p.getLsbD 8 ^^ p.getLsbD 4).toNat) := shiftLeft_one_or_ofBool p _

/-! ### The bits of the type -/

theorem constantType_iff_mem : ∀ {audc : BitVec 4}, constantType audc = true ↔ audc.toNat ∈ [0x0, 0xB] := by
  decide

theorem lt_twelve_of_constantType : ∀ {audc : BitVec 4}, constantType audc = true → audc.toNat < 12 := by
  decide

theorem dividesByThree_iff : ∀ {audc : BitVec 4}, (audc.getLsbD 3 && audc.getLsbD 2) = true ↔ 12 ≤ audc.toNat := by
  decide

theorem squareType_iff_mem :
    ∀ {audc : BitVec 4}, audc.getLsbD 2 = true ↔ audc.toNat ∈ [0x4, 0x5, 0x6, 0x7, 0xC, 0xD, 0xE, 0xF] := by
  decide

theorem getLsbD_one_eq_decide : ∀ audc : BitVec 4, audc.getLsbD 1 = decide (2 ≤ audc.toNat % 4) := by
  decide

theorem getLsbD_zero_eq_decide : ∀ audc : BitVec 4, audc.getLsbD 0 = decide (audc.toNat % 2 = 1) := by
  decide

/-! ### The default generator, stage by stage -/

section stages

variable {audc : BitVec 4} {w : Wave}

/-- The gate is open for the types that have none, at the two taps of the divide-by-31, or by the 5-bit pattern. -/
theorem waveGate_iff (p5 : BitVec 5) :
    waveGate audc p5 = true ↔
      audc.toNat % 4 < 2 ∨ (audc.toNat % 4 = 2 ∧ (p5 = 0x1F ∨ p5 = 0x01)) ∨
        (audc.toNat % 4 = 3 ∧ p5.getLsbD 4 = true) := by
  have hrange : audc.toNat % 4 < 2 ∨ audc.toNat % 4 = 2 ∨ audc.toNat % 4 = 3 := by omega
  unfold waveGate
  rw [getLsbD_one_eq_decide, getLsbD_zero_eq_decide, ← Nat.mod_mod_of_dvd audc.toNat (by decide : 2 ∣ 4)]
  obtain h | h | h := hrange
  · simp [h]
  · simp [h]
  · simp [h]

theorem waveTail_square (h : audc.toNat ∈ [0x4, 0x5, 0x6, 0x7, 0xC, 0xD, 0xE, 0xF]) :
    waveTail audc w = { w with t := !w.t, out := !w.t } := if_pos (squareType_iff_mem.mpr h)

theorem waveTail_noise (h : audc.toNat = 0x8) :
    waveTail audc w = { w with p9 := lfsr9 w.p9, out := (lfsr9 w.p9).getLsbD 8 } := by
  obtain rfl : audc = 0x8 := BitVec.eq_of_toNat_eq h
  rfl

theorem waveTail_pattern5 (h : audc.toNat ∈ [0x9, 0xA]) :
    waveTail audc w = { w with out := w.p5.getLsbD 4 } := by
  obtain rfl | rfl : audc = 0x9 ∨ audc = 0xA := by revert audc; decide
  · rfl
  · rfl

theorem waveTail_pattern4 (h : audc.toNat ∈ [0x1, 0x2, 0x3]) :
    waveTail audc w = { w with p4 := lfsr4 w.p4, out := (lfsr4 w.p4).getLsbD 3 } := by
  obtain rfl | rfl | rfl : audc = 0x1 ∨ audc = 0x2 ∨ audc = 0x3 := by revert audc; decide
  · rfl
  · rfl
  · rfl

theorem waveShift_closed (h : ¬waveGate audc (lfsr5 w.p5) = true) :
    waveShift audc w = { w with p5 := lfsr5 w.p5 } := if_neg h

theorem waveShift_open (h : waveGate audc (lfsr5 w.p5) = true) :
    waveShift audc w = waveTail audc { w with p5 := lfsr5 w.p5 } := if_pos h

theorem defaultWaveStep_constant (h : audc.toNat ∈ [0x0, 0xB]) :
    defaultWaveStep audc w = { w with out := true } := if_pos (constantType_iff_mem.mpr h)

/-- The divide-by-3 holds the step back. -/
theorem defaultWaveStep_waits (h : 12 ≤ audc.toNat) (hd : w.d3 ≠ 2) :
    defaultWaveStep audc w = { w with d3 := w.d3 + 1 } := by
  have hc : ¬constantType audc = true := fun ht => (lt_twelve_of_constantType ht).not_ge h
  have hd3 : ∀ d : Fin 3, d ≠ 2 → d + 1 ≠ 0 := by decide
  rw [defaultWaveStep, if_neg hc, if_pos (dividesByThree_iff.mpr h), if_neg (hd3 w.d3 hd)]

/-- A step that the divide-by-3 does not hold back moves the later stages. -/
theorem defaultWaveStep_acts (hc : audc.toNat ∉ [0x0, 0xB]) (hd : 12 ≤ audc.toNat → w.d3 = 2) :
    defaultWaveStep audc w = waveShift audc { w with d3 := if 12 ≤ audc.toNat then 0 else w.d3 } := by
  rw [defaultWaveStep, if_neg (mt constantType_iff_mem.mp hc)]
  by_cases h : 12 ≤ audc.toNat
  · have hwraps : w.d3 + 1 = 0 := by rw [hd h]; rfl
    rw [if_pos (dividesByThree_iff.mpr h), if_pos hwraps, if_pos h]
  · rw [if_neg (mt dividesByThree_iff.mp h), if_neg h]

end stages

/-- Settles O60: one stage of the generator at a time, with the counters as arithmetic by `lfsr4_eq_ofNat`,
`lfsr5_eq_ofNat` and `lfsr9_eq_ofNat`. -/
theorem defaultWaveformByType : Obligations.DefaultWaveformByType := by
  unfold Obligations.DefaultWaveformByType
  refine ⟨rfl, ?_⟩
  intro audc w n p4 p5 p9 acts v opened result
  have hresult : ∀ {u}, defaultWaveStep audc w = u → result u := fun h => ⟨congrArg WaveState.default h, rfl⟩
  have hp4 : lfsr4 w.p4 = p4 := lfsr4_eq_ofNat w.p4
  have hp5 : lfsr5 w.p5 = p5 := lfsr5_eq_ofNat w.p5
  have hp9 : lfsr9 w.p9 = p9 := lfsr9_eq_ofNat w.p9
  have hgate : waveGate audc (lfsr5 w.p5) = true ↔ opened := by
    rw [hp5]
    exact waveGate_iff p5
  have hv : { w with p5 := lfsr5 w.p5, d3 := if 12 ≤ n then 0 else w.d3 } = v := by rw [hp5]
  have hopen : acts → opened → defaultWaveStep audc w = waveTail audc v := fun ⟨hc, hd⟩ ho => by
    rw [← hv]
    exact (defaultWaveStep_acts hc hd).trans (waveShift_open (hgate.mpr ho))
  have hclosed : acts → ¬opened → defaultWaveStep audc w = v := fun ⟨hc, hd⟩ ho => by
    rw [← hv]
    exact (defaultWaveStep_acts hc hd).trans (waveShift_closed (mt hgate.mp ho))
  refine ⟨fun hc => hresult (defaultWaveStep_constant hc), fun h hd => hresult (defaultWaveStep_waits h hd),
    fun ha ho => hresult (hclosed ha ho), fun ha ho hn => hresult ?_, fun ha ho hn => hresult ?_,
    fun ha ho hn => hresult ?_, fun ha ho hn => hresult ?_⟩
  · rw [hopen ha ho, waveTail_square hn]
  · rw [hopen ha ho, waveTail_noise hn, hp9]
  · rw [hopen ha ho, waveTail_pattern5 hn]
  · rw [hopen ha ho, waveTail_pattern4 hn, hp4]

end Sys2Proof.Machine
end
